-- ==== Sys2Proof/Word.lean ====
section
/-! DEFINITION. The two word sizes of the machine (00_scope.md R10: `DATA_WIDTH` 8, `ADDR_WIDTH` and `PORT_WIDTH` 16) and the
concatenation `hi : lo` of R11. Everything a test could show wrong stands in Decode.lean and Machine/. -/

namespace Sys2Proof

/-- A general register, a memory cell, a port value (R10 `DATA_WIDTH`). -/
abbrev Byte := BitVec 8

/-- A memory address, a port address, a register pair (R10 `ADDR_WIDTH`, `PORT_WIDTH`). -/
abbrev Word := BitVec 16

/-- `hi : lo` of R11: `hi` in bits 15:8. -/
def Word.ofBytes (hi lo : Byte) : Word := hi ++ lo

end Sys2Proof
end

