-- ==== Sys2Proof/Syntax.lean ====
section
/-! DEFINITION. The instructions: ONE constructor for each mnemonic of `spec/opcode_table.json`, its operands in the order the
mnemonic names them. The types of the operand fields are 30_encoding.md R306 to R309. The last sixteen are the floppy disk
controller's command byte (62_fdc.md), which the CPU's opcode tables do not hold. -/

namespace Sys2Proof

/-- An 8-bit register of the field codes of 30_encoding.md R306 (code 6, the memory operand, is no register). -/
inductive Reg8 where
  | b | c | d | e | h | l | a
  deriving DecidableEq, Repr, Inhabited

/-- A register pair `RP` of R307: the operand classes `dd` and `ss`. -/
inductive RP where
  | bc | de | hl | sp
  deriving DecidableEq, Repr, Inhabited

/-- A register pair `RP2` of R308: the operand class `qq` of PUSH and POP. -/
inductive RP2 where
  | bc | de | hl | af
  deriving DecidableEq, Repr, Inhabited

/-- The operand classes `pp` and `rr` of ADD IX and ADD IY (R307): code 2 names the index register itself. -/
inductive RPX where
  | bc | de | self | sp
  deriving DecidableEq, Repr, Inhabited

/-- A condition of R309, its truth 10_state.md R112. -/
inductive Cond where
  | nz | z | nc | c | po | pe | p | m
  deriving DecidableEq, Repr, Inhabited

/-- The index mode of 10_state.md R121: which of HL, IX, IY the current opcode uses. -/
inductive IndexMode where
  | hl | ix | iy
  deriving DecidableEq, Repr, Inhabited

/-- The opcode tables of 30_encoding.md R340 (DD and FD are `main` under an index mode). -/
inductive OpTable where
  | main | cb | ed | ddcb | fdcb
  deriving DecidableEq, Repr, Inhabited

/-- The instructions, those with operands before those without (Lean's compiler numbers the constructors and bounds the number of one
that has operands). `d` is a displacement byte, `e` a relative jump's byte, `n` an immediate byte, `nn` an immediate word. -/
inductive Instr where
  -- The main table (30_encoding.md R320 to R322): with operands
  /-- LD dd,nn. 41_load16_stack.md R451. -/
  | ldDdNn (dd : RP) (nn : Word)
  /-- INC ss. 45_alu16.md R635. -/
  | incSs (ss : RP)
  /-- INC r. 43_alu8.md R562. -/
  | incR (r : Reg8)
  /-- DEC r. 43_alu8.md R566. -/
  | decR (r : Reg8)
  /-- LD r,n. 40_load8.md R402. -/
  | ldRN (r : Reg8) (n : Byte)
  /-- ADD HL,ss. 45_alu16.md R630. -/
  | addHlSs (ss : RP)
  /-- DEC ss. 45_alu16.md R638. -/
  | decSs (ss : RP)
  /-- DJNZ e. 47_jump_call_return.md R730. -/
  | djnz (e : Byte)
  /-- JR e. 47_jump_call_return.md R722. -/
  | jr (e : Byte)
  /-- JR NZ,e. 47_jump_call_return.md R726. -/
  | jrNz (e : Byte)
  /-- LD (nn),HL. 41_load16_stack.md R458. -/
  | ldAtNnHl (nn : Word)
  /-- JR Z,e. 47_jump_call_return.md R725. -/
  | jrZ (e : Byte)
  /-- LD HL,(nn). 41_load16_stack.md R454. -/
  | ldHlAtNn (nn : Word)
  /-- JR NC,e. 47_jump_call_return.md R724. -/
  | jrNc (e : Byte)
  /-- LD (nn),A. 40_load8.md R417. -/
  | ldAtNnA (nn : Word)
  /-- LD (HL),n. 40_load8.md R409. -/
  | ldAtHlN (n : Byte)
  /-- JR C,e. 47_jump_call_return.md R723. -/
  | jrC (e : Byte)
  /-- LD A,(nn). 40_load8.md R414. -/
  | ldAAtNn (nn : Word)
  /-- LD r,r'. 40_load8.md R401. -/
  | ldRR (r : Reg8) (src : Reg8)
  /-- LD r,(HL). 40_load8.md R403. -/
  | ldRAtHl (r : Reg8)
  /-- LD (HL),r. 40_load8.md R406. -/
  | ldAtHlR (src : Reg8)
  /-- ADD A,r. 43_alu8.md R554. -/
  | addAR (src : Reg8)
  /-- ADD A,n. 43_alu8.md R554. -/
  | addAN (n : Byte)
  /-- ADC A,r. 43_alu8.md R555. -/
  | adcAR (src : Reg8)
  /-- ADC A,n. 43_alu8.md R555. -/
  | adcAN (n : Byte)
  /-- SUB r. 43_alu8.md R556. -/
  | subR (src : Reg8)
  /-- SUB n. 43_alu8.md R556. -/
  | subN (n : Byte)
  /-- SBC A,r. 43_alu8.md R557. -/
  | sbcAR (src : Reg8)
  /-- SBC A,n. 43_alu8.md R557. -/
  | sbcAN (n : Byte)
  /-- AND r. 43_alu8.md R558. -/
  | andR (src : Reg8)
  /-- AND n. 43_alu8.md R558. -/
  | andN (n : Byte)
  /-- XOR r. 43_alu8.md R559. -/
  | xorR (src : Reg8)
  /-- XOR n. 43_alu8.md R559. -/
  | xorN (n : Byte)
  /-- OR r. 43_alu8.md R560. -/
  | orR (src : Reg8)
  /-- OR n. 43_alu8.md R560. -/
  | orN (n : Byte)
  /-- CP r. 43_alu8.md R561. -/
  | cpR (src : Reg8)
  /-- CP n. 43_alu8.md R561. -/
  | cpN (n : Byte)
  /-- RET cc. 47_jump_call_return.md R738. -/
  | retCc (cc : Cond)
  /-- POP qq. 41_load16_stack.md R468. -/
  | popQq (qq : RP2)
  /-- JP cc,nn. 47_jump_call_return.md R721. -/
  | jpCcNn (cc : Cond) (nn : Word)
  /-- JP nn. 47_jump_call_return.md R720. -/
  | jpNn (nn : Word)
  /-- CALL cc,nn. 47_jump_call_return.md R736. -/
  | callCcNn (cc : Cond) (nn : Word)
  /-- PUSH qq. 41_load16_stack.md R465. -/
  | pushQq (qq : RP2)
  /-- RST p. 47_jump_call_return.md R741. -/
  | rst (t : BitVec 3)
  /-- CALL nn. 47_jump_call_return.md R735. -/
  | callNn (nn : Word)
  /-- OUT (n),A. 48_io.md R776. -/
  | outNA (n : Byte)
  /-- IN A,(n). 48_io.md R770. -/
  | inAN (n : Byte)
  -- The CB table (R323): with operands
  /-- RLC r. 46_rotate_shift_bit.md R666. -/
  | rlcR (r : Reg8)
  /-- RRC r. 46_rotate_shift_bit.md R667. -/
  | rrcR (r : Reg8)
  /-- RL r. 46_rotate_shift_bit.md R668. -/
  | rlR (r : Reg8)
  /-- RR r. 46_rotate_shift_bit.md R669. -/
  | rrR (r : Reg8)
  /-- SLA r. 46_rotate_shift_bit.md R670. -/
  | slaR (r : Reg8)
  /-- SRA r. 46_rotate_shift_bit.md R671. -/
  | sraR (r : Reg8)
  /-- SLL r, SLL (HL). 49_undocumented_and_fallback.md R814. -/
  | sll (z : BitVec 3)
  /-- SRL r. 46_rotate_shift_bit.md R672. -/
  | srlR (r : Reg8)
  /-- BIT b,r. 46_rotate_shift_bit.md R680. -/
  | bitR (b : BitVec 3) (r : Reg8)
  /-- BIT b,(HL). 46_rotate_shift_bit.md R681. -/
  | bitAtHl (b : BitVec 3)
  /-- RES b,r. 46_rotate_shift_bit.md R688. -/
  | resR (b : BitVec 3) (r : Reg8)
  /-- RES b,(HL). 46_rotate_shift_bit.md R689. -/
  | resAtHl (b : BitVec 3)
  /-- SET b,r. 46_rotate_shift_bit.md R684. -/
  | setR (b : BitVec 3) (r : Reg8)
  /-- SET b,(HL). 46_rotate_shift_bit.md R685. -/
  | setAtHl (b : BitVec 3)
  -- The ED table (R324): with operands
  /-- the ED fallback, NOP. 49_undocumented_and_fallback.md R823. -/
  | edNop (op : Byte)
  /-- IN r,(C). 48_io.md R771. -/
  | inRC (r : Reg8)
  /-- OUT (C),r. 48_io.md R777. -/
  | outCR (r : Reg8)
  /-- SBC HL,ss. 45_alu16.md R632. -/
  | sbcHlSs (ss : RP)
  /-- LD (nn),dd. 41_load16_stack.md R459. -/
  | ldAtNnDd (dd : RP) (nn : Word)
  /-- ADC HL,ss. 45_alu16.md R631. -/
  | adcHlSs (ss : RP)
  /-- LD dd,(nn). 41_load16_stack.md R455. -/
  | ldDdAtNn (dd : RP) (nn : Word)
  /-- NEG, undocumented mirror. 49_undocumented_and_fallback.md R816. -/
  | negMirror (y : BitVec 3)
  /-- IM 0, undocumented mirror. 49_undocumented_and_fallback.md R818. -/
  | im0Mirror (y : BitVec 3)
  /-- RETN, undocumented mirror. 49_undocumented_and_fallback.md R817. -/
  | retnMirror (y : BitVec 3)
  /-- LD (nn),HL, undocumented ED form. 49_undocumented_and_fallback.md R819. -/
  | ldAtNnHlEd (nn : Word)
  /-- LD HL,(nn), undocumented ED form. 49_undocumented_and_fallback.md R819. -/
  | ldHlAtNnEd (nn : Word)
  /-- NOP of two bytes, ED 77 and ED 7F. 49_undocumented_and_fallback.md R822. -/
  | nopEd77 (y : BitVec 3)
  -- The main table under index mode IX: the rows the mode changes (R312): with operands
  /-- ADD IX,pp. 45_alu16.md R633. -/
  | addIxPp (pp : RPX)
  /-- LD IX,nn. 41_load16_stack.md R452. -/
  | ldIxNn (nn : Word)
  /-- LD (nn),IX. 41_load16_stack.md R460. -/
  | ldAtNnIx (nn : Word)
  /-- LD IXH,n. 49_undocumented_and_fallback.md R811. -/
  | ldIxhN (n : Byte)
  /-- LD IX,(nn). 41_load16_stack.md R456. -/
  | ldIxAtNn (nn : Word)
  /-- LD IXL,n. 49_undocumented_and_fallback.md R811. -/
  | ldIxlN (n : Byte)
  /-- INC (IX+d). 43_alu8.md R564. -/
  | incAtIx (d : Byte)
  /-- DEC (IX+d). 43_alu8.md R568. -/
  | decAtIx (d : Byte)
  /-- LD (IX+d),n. 40_load8.md R410. -/
  | ldAtIxN (d : Byte) (n : Byte)
  /-- LD r,r' with H, L read as IXH, IXL. 49_undocumented_and_fallback.md R811. -/
  | ldRRIx (r : Reg8) (src : Reg8)
  /-- LD r,(IX+d). 40_load8.md R404. -/
  | ldRAtIx (r : Reg8) (d : Byte)
  /-- LD (IX+d),r. 40_load8.md R407. -/
  | ldAtIxR (src : Reg8) (d : Byte)
  /-- ADD A,(IX+d). 43_alu8.md R554. -/
  | addAAtIx (d : Byte)
  /-- ADC A,(IX+d). 43_alu8.md R555. -/
  | adcAAtIx (d : Byte)
  /-- SUB (IX+d). 43_alu8.md R556. -/
  | subAtIx (d : Byte)
  /-- SBC A,(IX+d). 43_alu8.md R557. -/
  | sbcAAtIx (d : Byte)
  /-- AND (IX+d). 43_alu8.md R558. -/
  | andAtIx (d : Byte)
  /-- XOR (IX+d). 43_alu8.md R559. -/
  | xorAtIx (d : Byte)
  /-- OR (IX+d). 43_alu8.md R560. -/
  | orAtIx (d : Byte)
  /-- CP (IX+d). 43_alu8.md R561. -/
  | cpAtIx (d : Byte)
  -- The main table under index mode IY: the rows the mode changes (R312): with operands
  /-- ADD IY,rr. 45_alu16.md R634. -/
  | addIyRr (rr : RPX)
  /-- LD IY,nn. 41_load16_stack.md R453. -/
  | ldIyNn (nn : Word)
  /-- LD (nn),IY. 41_load16_stack.md R461. -/
  | ldAtNnIy (nn : Word)
  /-- LD IYH,n. 49_undocumented_and_fallback.md R811. -/
  | ldIyhN (n : Byte)
  /-- LD IY,(nn). 41_load16_stack.md R457. -/
  | ldIyAtNn (nn : Word)
  /-- LD IYL,n. 49_undocumented_and_fallback.md R811. -/
  | ldIylN (n : Byte)
  /-- INC (IY+d). 43_alu8.md R565. -/
  | incAtIy (d : Byte)
  /-- DEC (IY+d). 43_alu8.md R569. -/
  | decAtIy (d : Byte)
  /-- LD (IY+d),n. 40_load8.md R411. -/
  | ldAtIyN (d : Byte) (n : Byte)
  /-- LD r,r' with H, L read as IYH, IYL. 49_undocumented_and_fallback.md R811. -/
  | ldRRIy (r : Reg8) (src : Reg8)
  /-- LD r,(IY+d). 40_load8.md R405. -/
  | ldRAtIy (r : Reg8) (d : Byte)
  /-- LD (IY+d),r. 40_load8.md R408. -/
  | ldAtIyR (src : Reg8) (d : Byte)
  /-- ADD A,(IY+d). 43_alu8.md R554. -/
  | addAAtIy (d : Byte)
  /-- ADC A,(IY+d). 43_alu8.md R555. -/
  | adcAAtIy (d : Byte)
  /-- SUB (IY+d). 43_alu8.md R556. -/
  | subAtIy (d : Byte)
  /-- SBC A,(IY+d). 43_alu8.md R557. -/
  | sbcAAtIy (d : Byte)
  /-- AND (IY+d). 43_alu8.md R558. -/
  | andAtIy (d : Byte)
  /-- XOR (IY+d). 43_alu8.md R559. -/
  | xorAtIy (d : Byte)
  /-- OR (IY+d). 43_alu8.md R560. -/
  | orAtIy (d : Byte)
  /-- CP (IY+d). 43_alu8.md R561. -/
  | cpAtIy (d : Byte)
  -- The CB table under index mode IX (R323, R815): with operands
  /-- RLC (IX+d),r. 49_undocumented_and_fallback.md R815. -/
  | rlcAtIxR (d : Byte) (r : Reg8)
  /-- RLC (IX+d). 46_rotate_shift_bit.md R666. -/
  | rlcAtIx (d : Byte)
  /-- RRC (IX+d),r. 49_undocumented_and_fallback.md R815. -/
  | rrcAtIxR (d : Byte) (r : Reg8)
  /-- RRC (IX+d). 46_rotate_shift_bit.md R667. -/
  | rrcAtIx (d : Byte)
  /-- RL (IX+d),r. 49_undocumented_and_fallback.md R815. -/
  | rlAtIxR (d : Byte) (r : Reg8)
  /-- RL (IX+d). 46_rotate_shift_bit.md R668. -/
  | rlAtIx (d : Byte)
  /-- RR (IX+d),r. 49_undocumented_and_fallback.md R815. -/
  | rrAtIxR (d : Byte) (r : Reg8)
  /-- RR (IX+d). 46_rotate_shift_bit.md R669. -/
  | rrAtIx (d : Byte)
  /-- SLA (IX+d),r. 49_undocumented_and_fallback.md R815. -/
  | slaAtIxR (d : Byte) (r : Reg8)
  /-- SLA (IX+d). 46_rotate_shift_bit.md R670. -/
  | slaAtIx (d : Byte)
  /-- SRA (IX+d),r. 49_undocumented_and_fallback.md R815. -/
  | sraAtIxR (d : Byte) (r : Reg8)
  /-- SRA (IX+d). 46_rotate_shift_bit.md R671. -/
  | sraAtIx (d : Byte)
  /-- SLL (IX+d), SLL (IX+d),r. 49_undocumented_and_fallback.md R814. -/
  | sllAtIx (d : Byte) (z : BitVec 3)
  /-- SRL (IX+d),r. 49_undocumented_and_fallback.md R815. -/
  | srlAtIxR (d : Byte) (r : Reg8)
  /-- SRL (IX+d). 46_rotate_shift_bit.md R672. -/
  | srlAtIx (d : Byte)
  /-- BIT b,(IX+d), undocumented mirror. 49_undocumented_and_fallback.md R815. -/
  | bitAtIxMirror (d : Byte) (b : BitVec 3) (r : Reg8)
  /-- BIT b,(IX+d). 46_rotate_shift_bit.md R682. -/
  | bitAtIx (d : Byte) (b : BitVec 3)
  /-- RES b,(IX+d),r. 49_undocumented_and_fallback.md R815. -/
  | resAtIxR (d : Byte) (b : BitVec 3) (r : Reg8)
  /-- RES b,(IX+d). 46_rotate_shift_bit.md R690. -/
  | resAtIx (d : Byte) (b : BitVec 3)
  /-- SET b,(IX+d),r. 49_undocumented_and_fallback.md R815. -/
  | setAtIxR (d : Byte) (b : BitVec 3) (r : Reg8)
  /-- SET b,(IX+d). 46_rotate_shift_bit.md R686. -/
  | setAtIx (d : Byte) (b : BitVec 3)
  -- The CB table under index mode IY (R323, R815): with operands
  /-- RLC (IY+d),r. 49_undocumented_and_fallback.md R815. -/
  | rlcAtIyR (d : Byte) (r : Reg8)
  /-- RLC (IY+d). 46_rotate_shift_bit.md R666. -/
  | rlcAtIy (d : Byte)
  /-- RRC (IY+d),r. 49_undocumented_and_fallback.md R815. -/
  | rrcAtIyR (d : Byte) (r : Reg8)
  /-- RRC (IY+d). 46_rotate_shift_bit.md R667. -/
  | rrcAtIy (d : Byte)
  /-- RL (IY+d),r. 49_undocumented_and_fallback.md R815. -/
  | rlAtIyR (d : Byte) (r : Reg8)
  /-- RL (IY+d). 46_rotate_shift_bit.md R668. -/
  | rlAtIy (d : Byte)
  /-- RR (IY+d),r. 49_undocumented_and_fallback.md R815. -/
  | rrAtIyR (d : Byte) (r : Reg8)
  /-- RR (IY+d). 46_rotate_shift_bit.md R669. -/
  | rrAtIy (d : Byte)
  /-- SLA (IY+d),r. 49_undocumented_and_fallback.md R815. -/
  | slaAtIyR (d : Byte) (r : Reg8)
  /-- SLA (IY+d). 46_rotate_shift_bit.md R670. -/
  | slaAtIy (d : Byte)
  /-- SRA (IY+d),r. 49_undocumented_and_fallback.md R815. -/
  | sraAtIyR (d : Byte) (r : Reg8)
  /-- SRA (IY+d). 46_rotate_shift_bit.md R671. -/
  | sraAtIy (d : Byte)
  /-- SLL (IY+d), SLL (IY+d),r. 49_undocumented_and_fallback.md R814. -/
  | sllAtIy (d : Byte) (z : BitVec 3)
  /-- SRL (IY+d),r. 49_undocumented_and_fallback.md R815. -/
  | srlAtIyR (d : Byte) (r : Reg8)
  /-- SRL (IY+d). 46_rotate_shift_bit.md R672. -/
  | srlAtIy (d : Byte)
  /-- BIT b,(IY+d), undocumented mirror. 49_undocumented_and_fallback.md R815. -/
  | bitAtIyMirror (d : Byte) (b : BitVec 3) (r : Reg8)
  /-- BIT b,(IY+d). 46_rotate_shift_bit.md R683. -/
  | bitAtIy (d : Byte) (b : BitVec 3)
  /-- RES b,(IY+d),r. 49_undocumented_and_fallback.md R815. -/
  | resAtIyR (d : Byte) (b : BitVec 3) (r : Reg8)
  /-- RES b,(IY+d). 46_rotate_shift_bit.md R691. -/
  | resAtIy (d : Byte) (b : BitVec 3)
  /-- SET b,(IY+d),r. 49_undocumented_and_fallback.md R815. -/
  | setAtIyR (d : Byte) (b : BitVec 3) (r : Reg8)
  /-- SET b,(IY+d). 46_rotate_shift_bit.md R687. -/
  | setAtIy (d : Byte) (b : BitVec 3)
  -- The command byte of the floppy disk controller (62_fdc.md R1112): with operands
  /-- RESTORE. 62_fdc.md R1120. -/
  | fdcRestore (side : Bool) (flags : BitVec 4)
  /-- SEEK. 62_fdc.md R1121. -/
  | fdcSeek (side : Bool) (flags : BitVec 4)
  /-- STEP. 62_fdc.md R1122. -/
  | fdcStep (side : Bool) (flags : BitVec 4)
  /-- STEP with update. 62_fdc.md R1123. -/
  | fdcStepUpdate (side : Bool) (flags : BitVec 4)
  /-- STEP_IN. 62_fdc.md R1124. -/
  | fdcStepIn (side : Bool) (flags : BitVec 4)
  /-- STEP_IN with update. 62_fdc.md R1125. -/
  | fdcStepInUpdate (side : Bool) (flags : BitVec 4)
  /-- STEP_OUT. 62_fdc.md R1126. -/
  | fdcStepOut (side : Bool) (flags : BitVec 4)
  /-- STEP_OUT with update. 62_fdc.md R1127. -/
  | fdcStepOutUpdate (side : Bool) (flags : BitVec 4)
  /-- READ_1SECTOR. 62_fdc.md R1130. -/
  | fdcReadSector (side : Bool) (flags : BitVec 4)
  /-- READ_MSECTOR. 62_fdc.md R1131. -/
  | fdcReadSectors (side : Bool) (flags : BitVec 4)
  /-- WRITE_1SECTOR. 62_fdc.md R1132. -/
  | fdcWriteSector (side : Bool) (flags : BitVec 4)
  /-- WRITE_MSECTOR. 62_fdc.md R1133. -/
  | fdcWriteSectors (side : Bool) (flags : BitVec 4)
  /-- READ_ADDRESS. 62_fdc.md R1134. -/
  | fdcReadAddress (side : Bool) (flags : BitVec 4)
  /-- FORCE_INTERRUPT. 62_fdc.md R1135. -/
  | fdcForceInterrupt (side : Bool) (flags : BitVec 4)
  /-- READ_TRACK. 62_fdc.md R1136. -/
  | fdcReadTrack (side : Bool) (flags : BitVec 4)
  /-- WRITE_TRACK. 62_fdc.md R1137. -/
  | fdcWriteTrack (side : Bool) (flags : BitVec 4)
  -- The main table (30_encoding.md R320 to R322): no operand
  /-- NOP. 44_general_control.md R605. -/
  | nop
  /-- LD (BC),A. 40_load8.md R415. -/
  | ldAtBcA
  /-- RLCA. 46_rotate_shift_bit.md R660. -/
  | rlca
  /-- EX AF,AF'. 42_exchange_block.md R501. -/
  | exAfAf
  /-- LD A,(BC). 40_load8.md R412. -/
  | ldAAtBc
  /-- RRCA. 46_rotate_shift_bit.md R662. -/
  | rrca
  /-- LD (DE),A. 40_load8.md R416. -/
  | ldAtDeA
  /-- RLA. 46_rotate_shift_bit.md R661. -/
  | rla
  /-- LD A,(DE). 40_load8.md R413. -/
  | ldAAtDe
  /-- RRA. 46_rotate_shift_bit.md R663. -/
  | rra
  /-- DAA. 44_general_control.md R600. -/
  | daa
  /-- CPL. 44_general_control.md R601. -/
  | cpl
  /-- INC (HL). 43_alu8.md R563. -/
  | incAtHl
  /-- DEC (HL). 43_alu8.md R567. -/
  | decAtHl
  /-- SCF. 44_general_control.md R604. -/
  | scf
  /-- CCF. 44_general_control.md R603. -/
  | ccf
  /-- HALT. 44_general_control.md R606. -/
  | halt
  /-- ADD A,(HL). 43_alu8.md R554. -/
  | addAAtHl
  /-- ADC A,(HL). 43_alu8.md R555. -/
  | adcAAtHl
  /-- SUB (HL). 43_alu8.md R556. -/
  | subAtHl
  /-- SBC A,(HL). 43_alu8.md R557. -/
  | sbcAAtHl
  /-- AND (HL). 43_alu8.md R558. -/
  | andAtHl
  /-- XOR (HL). 43_alu8.md R559. -/
  | xorAtHl
  /-- OR (HL). 43_alu8.md R560. -/
  | orAtHl
  /-- CP (HL). 43_alu8.md R561. -/
  | cpAtHl
  /-- RET. 47_jump_call_return.md R737. -/
  | ret
  /-- the CB prefix byte. 30_encoding.md R323. -/
  | prefixCb
  /-- EXX. 42_exchange_block.md R502. -/
  | exx
  /-- the DD prefix byte. 30_encoding.md R313. -/
  | prefixDd
  /-- EX (SP),HL. 42_exchange_block.md R503. -/
  | exAtSpHl
  /-- JP (HL). 47_jump_call_return.md R727. -/
  | jpHl
  /-- EX DE,HL. 42_exchange_block.md R500. -/
  | exDeHl
  /-- the ED prefix byte. 30_encoding.md R324. -/
  | prefixEd
  /-- DI. 44_general_control.md R607. -/
  | di
  /-- LD SP,HL. 41_load16_stack.md R462. -/
  | ldSpHl
  /-- EI. 44_general_control.md R608. -/
  | ei
  /-- the FD prefix byte. 30_encoding.md R313. -/
  | prefixFd
  -- The CB table (R323): no operand
  /-- RLC (HL). 46_rotate_shift_bit.md R666. -/
  | rlcAtHl
  /-- RRC (HL). 46_rotate_shift_bit.md R667. -/
  | rrcAtHl
  /-- RL (HL). 46_rotate_shift_bit.md R668. -/
  | rlAtHl
  /-- RR (HL). 46_rotate_shift_bit.md R669. -/
  | rrAtHl
  /-- SLA (HL). 46_rotate_shift_bit.md R670. -/
  | slaAtHl
  /-- SRA (HL). 46_rotate_shift_bit.md R671. -/
  | sraAtHl
  /-- SRL (HL). 46_rotate_shift_bit.md R672. -/
  | srlAtHl
  -- The ED table (R324): no operand
  /-- NEG. 44_general_control.md R602. -/
  | neg
  /-- RETN. 47_jump_call_return.md R740. -/
  | retn
  /-- IM 0. 44_general_control.md R609. -/
  | im0
  /-- LD I,A. 40_load8.md R420. -/
  | ldIA
  /-- RETI. 47_jump_call_return.md R739. -/
  | reti
  /-- LD R,A. 40_load8.md R421. -/
  | ldRA
  /-- IM 1. 44_general_control.md R610. -/
  | im1
  /-- LD A,I. 40_load8.md R418. -/
  | ldAI
  /-- IM 2. 44_general_control.md R611. -/
  | im2
  /-- LD A,R. 40_load8.md R419. -/
  | ldAR
  /-- RRD. 46_rotate_shift_bit.md R674. -/
  | rrd
  /-- RLD. 46_rotate_shift_bit.md R673. -/
  | rld
  /-- IN (C), undocumented. 49_undocumented_and_fallback.md R820. -/
  | inFC
  /-- OUT (C),0, undocumented. 49_undocumented_and_fallback.md R821. -/
  | outC0
  /-- IM 1, undocumented mirror. 49_undocumented_and_fallback.md R818. -/
  | im1Mirror
  /-- IM 2, undocumented mirror. 49_undocumented_and_fallback.md R818. -/
  | im2Mirror
  /-- LDI. 42_exchange_block.md R506. -/
  | ldi
  /-- CPI. 42_exchange_block.md R510. -/
  | cpi
  /-- INI. 48_io.md R772. -/
  | ini
  /-- OUTI. 48_io.md R778. -/
  | outi
  /-- LDD. 42_exchange_block.md R508. -/
  | ldd
  /-- CPD. 42_exchange_block.md R512. -/
  | cpd
  /-- IND. 48_io.md R774. -/
  | ind
  /-- OUTD. 48_io.md R780. -/
  | outd
  /-- LDIR. 42_exchange_block.md R507. -/
  | ldir
  /-- CPIR. 42_exchange_block.md R511. -/
  | cpir
  /-- INIR. 48_io.md R773. -/
  | inir
  /-- OTIR. 48_io.md R779. -/
  | otir
  /-- LDDR. 42_exchange_block.md R509. -/
  | lddr
  /-- CPDR. 42_exchange_block.md R513. -/
  | cpdr
  /-- INDR. 48_io.md R775. -/
  | indr
  /-- OTDR. 48_io.md R781. -/
  | otdr
  -- The main table under index mode IX: the rows the mode changes (R312): no operand
  /-- INC IX. 45_alu16.md R636. -/
  | incIx
  /-- INC IXH. 49_undocumented_and_fallback.md R811. -/
  | incIxh
  /-- DEC IXH. 49_undocumented_and_fallback.md R811. -/
  | decIxh
  /-- DEC IX. 45_alu16.md R639. -/
  | decIx
  /-- INC IXL. 49_undocumented_and_fallback.md R811. -/
  | incIxl
  /-- DEC IXL. 49_undocumented_and_fallback.md R811. -/
  | decIxl
  /-- ADD A,IXH. 49_undocumented_and_fallback.md R811. -/
  | addAIxh
  /-- ADD A,IXL. 49_undocumented_and_fallback.md R811. -/
  | addAIxl
  /-- ADC A,IXH. 49_undocumented_and_fallback.md R811. -/
  | adcAIxh
  /-- ADC A,IXL. 49_undocumented_and_fallback.md R811. -/
  | adcAIxl
  /-- SUB IXH. 49_undocumented_and_fallback.md R811. -/
  | subIxh
  /-- SUB IXL. 49_undocumented_and_fallback.md R811. -/
  | subIxl
  /-- SBC A,IXH. 49_undocumented_and_fallback.md R811. -/
  | sbcAIxh
  /-- SBC A,IXL. 49_undocumented_and_fallback.md R811. -/
  | sbcAIxl
  /-- AND IXH. 49_undocumented_and_fallback.md R811. -/
  | andIxh
  /-- AND IXL. 49_undocumented_and_fallback.md R811. -/
  | andIxl
  /-- XOR IXH. 49_undocumented_and_fallback.md R811. -/
  | xorIxh
  /-- XOR IXL. 49_undocumented_and_fallback.md R811. -/
  | xorIxl
  /-- OR IXH. 49_undocumented_and_fallback.md R811. -/
  | orIxh
  /-- OR IXL. 49_undocumented_and_fallback.md R811. -/
  | orIxl
  /-- CP IXH. 49_undocumented_and_fallback.md R811. -/
  | cpIxh
  /-- CP IXL. 49_undocumented_and_fallback.md R811. -/
  | cpIxl
  /-- the CB prefix byte under index mode IX. 30_encoding.md R323. -/
  | prefixDdcb
  /-- POP IX. 41_load16_stack.md R469. -/
  | popIx
  /-- EX (SP),IX. 42_exchange_block.md R504. -/
  | exAtSpIx
  /-- PUSH IX. 41_load16_stack.md R466. -/
  | pushIx
  /-- JP (IX). 47_jump_call_return.md R728. -/
  | jpIx
  /-- the ED prefix byte after an index prefix. 49_undocumented_and_fallback.md R813. -/
  | prefixEdIdx
  /-- LD SP,IX. 41_load16_stack.md R463. -/
  | ldSpIx
  -- The main table under index mode IY: the rows the mode changes (R312): no operand
  /-- INC IY. 45_alu16.md R637. -/
  | incIy
  /-- INC IYH. 49_undocumented_and_fallback.md R811. -/
  | incIyh
  /-- DEC IYH. 49_undocumented_and_fallback.md R811. -/
  | decIyh
  /-- DEC IY. 45_alu16.md R640. -/
  | decIy
  /-- INC IYL. 49_undocumented_and_fallback.md R811. -/
  | incIyl
  /-- DEC IYL. 49_undocumented_and_fallback.md R811. -/
  | decIyl
  /-- ADD A,IYH. 49_undocumented_and_fallback.md R811. -/
  | addAIyh
  /-- ADD A,IYL. 49_undocumented_and_fallback.md R811. -/
  | addAIyl
  /-- ADC A,IYH. 49_undocumented_and_fallback.md R811. -/
  | adcAIyh
  /-- ADC A,IYL. 49_undocumented_and_fallback.md R811. -/
  | adcAIyl
  /-- SUB IYH. 49_undocumented_and_fallback.md R811. -/
  | subIyh
  /-- SUB IYL. 49_undocumented_and_fallback.md R811. -/
  | subIyl
  /-- SBC A,IYH. 49_undocumented_and_fallback.md R811. -/
  | sbcAIyh
  /-- SBC A,IYL. 49_undocumented_and_fallback.md R811. -/
  | sbcAIyl
  /-- AND IYH. 49_undocumented_and_fallback.md R811. -/
  | andIyh
  /-- AND IYL. 49_undocumented_and_fallback.md R811. -/
  | andIyl
  /-- XOR IYH. 49_undocumented_and_fallback.md R811. -/
  | xorIyh
  /-- XOR IYL. 49_undocumented_and_fallback.md R811. -/
  | xorIyl
  /-- OR IYH. 49_undocumented_and_fallback.md R811. -/
  | orIyh
  /-- OR IYL. 49_undocumented_and_fallback.md R811. -/
  | orIyl
  /-- CP IYH. 49_undocumented_and_fallback.md R811. -/
  | cpIyh
  /-- CP IYL. 49_undocumented_and_fallback.md R811. -/
  | cpIyl
  /-- the CB prefix byte under index mode IY. 30_encoding.md R323. -/
  | prefixFdcb
  /-- POP IY. 41_load16_stack.md R470. -/
  | popIy
  /-- EX (SP),IY. 42_exchange_block.md R505. -/
  | exAtSpIy
  /-- PUSH IY. 41_load16_stack.md R467. -/
  | pushIy
  /-- JP (IY). 47_jump_call_return.md R729. -/
  | jpIy
  /-- LD SP,IY. 41_load16_stack.md R464. -/
  | ldSpIy
  deriving DecidableEq, Repr, Inhabited

end Sys2Proof
end

