-- ==== Sys2Proof/WellFormed.lean ====
section
/-! DEFINITION. When an instruction is well formed: its operands are ones its row of `spec/opcode_table.json` covers. Only the
rows whose opcodes leave out values of a field put a condition; every other instruction is well formed with every operand. -/

namespace Sys2Proof

/-- Registers H and L, which an index mode replaces by the halves of IX or IY (30_encoding.md R312 (c)). -/
def isHalf : Reg8 → Bool
  | .h | .l => true
  | _ => false

/-- The ED sub-opcodes that 30_encoding.md R324 leaves unassigned: all but `x = 1` and the sixteen block instructions. -/
def edUnassigned (op : Byte) : Bool :=
  !(op.toNat / 64 = 1 || (op.toNat / 64 = 2 && op.toNat / 32 % 2 = 1 && op.toNat / 4 % 2 = 0))

/-- The operands are ones the instruction's row covers. -/
def WellFormed : Instr → Bool
  | .nop => true
  | .ldDdNn _ _ => true
  | .ldAtBcA => true
  | .incSs _ => true
  | .incR _ => true
  | .decR _ => true
  | .ldRN _ _ => true
  | .rlca => true
  | .exAfAf => true
  | .addHlSs _ => true
  | .ldAAtBc => true
  | .decSs _ => true
  | .rrca => true
  | .djnz _ => true
  | .ldAtDeA => true
  | .rla => true
  | .jr _ => true
  | .ldAAtDe => true
  | .rra => true
  | .jrNz _ => true
  | .ldAtNnHl _ => true
  | .daa => true
  | .jrZ _ => true
  | .ldHlAtNn _ => true
  | .cpl => true
  | .jrNc _ => true
  | .ldAtNnA _ => true
  | .incAtHl => true
  | .decAtHl => true
  | .ldAtHlN _ => true
  | .scf => true
  | .jrC _ => true
  | .ldAAtNn _ => true
  | .ccf => true
  | .ldRR _ _ => true
  | .ldRAtHl _ => true
  | .ldAtHlR _ => true
  | .halt => true
  | .addAR _ => true
  | .addAAtHl => true
  | .addAN _ => true
  | .adcAR _ => true
  | .adcAAtHl => true
  | .adcAN _ => true
  | .subR _ => true
  | .subAtHl => true
  | .subN _ => true
  | .sbcAR _ => true
  | .sbcAAtHl => true
  | .sbcAN _ => true
  | .andR _ => true
  | .andAtHl => true
  | .andN _ => true
  | .xorR _ => true
  | .xorAtHl => true
  | .xorN _ => true
  | .orR _ => true
  | .orAtHl => true
  | .orN _ => true
  | .cpR _ => true
  | .cpAtHl => true
  | .cpN _ => true
  | .retCc _ => true
  | .popQq _ => true
  | .jpCcNn _ _ => true
  | .jpNn _ => true
  | .callCcNn _ _ => true
  | .pushQq _ => true
  | .rst _ => true
  | .ret => true
  | .prefixCb => true
  | .callNn _ => true
  | .outNA _ => true
  | .exx => true
  | .inAN _ => true
  | .prefixDd => true
  | .exAtSpHl => true
  | .jpHl => true
  | .exDeHl => true
  | .prefixEd => true
  | .di => true
  | .ldSpHl => true
  | .ei => true
  | .prefixFd => true
  | .rlcR _ => true
  | .rlcAtHl => true
  | .rrcR _ => true
  | .rrcAtHl => true
  | .rlR _ => true
  | .rlAtHl => true
  | .rrR _ => true
  | .rrAtHl => true
  | .slaR _ => true
  | .slaAtHl => true
  | .sraR _ => true
  | .sraAtHl => true
  | .sll _ => true
  | .srlR _ => true
  | .srlAtHl => true
  | .bitR _ _ => true
  | .bitAtHl _ => true
  | .resR _ _ => true
  | .resAtHl _ => true
  | .setR _ _ => true
  | .setAtHl _ => true
  | .edNop op => edUnassigned op
  | .inRC _ => true
  | .outCR _ => true
  | .sbcHlSs _ => true
  | .ldAtNnDd dd _ => dd ≠ .hl
  | .neg => true
  | .retn => true
  | .im0 => true
  | .ldIA => true
  | .adcHlSs _ => true
  | .ldDdAtNn dd _ => dd ≠ .hl
  | .negMirror y => y ≠ 0#3
  | .reti => true
  | .im0Mirror y => y = 1#3 || y = 4#3 || y = 5#3
  | .ldRA => true
  | .retnMirror y => y ≠ 0#3 && y ≠ 1#3
  | .im1 => true
  | .ldAI => true
  | .im2 => true
  | .ldAR => true
  | .ldAtNnHlEd _ => true
  | .rrd => true
  | .ldHlAtNnEd _ => true
  | .rld => true
  | .inFC => true
  | .outC0 => true
  | .im1Mirror => true
  | .nopEd77 y => y = 6#3 || y = 7#3
  | .im2Mirror => true
  | .ldi => true
  | .cpi => true
  | .ini => true
  | .outi => true
  | .ldd => true
  | .cpd => true
  | .ind => true
  | .outd => true
  | .ldir => true
  | .cpir => true
  | .inir => true
  | .otir => true
  | .lddr => true
  | .cpdr => true
  | .indr => true
  | .otdr => true
  | .addIxPp _ => true
  | .ldIxNn _ => true
  | .ldAtNnIx _ => true
  | .incIx => true
  | .incIxh => true
  | .decIxh => true
  | .ldIxhN _ => true
  | .ldIxAtNn _ => true
  | .decIx => true
  | .incIxl => true
  | .decIxl => true
  | .ldIxlN _ => true
  | .incAtIx _ => true
  | .decAtIx _ => true
  | .ldAtIxN _ _ => true
  | .ldRRIx r src => isHalf r || isHalf src
  | .ldRAtIx _ _ => true
  | .ldAtIxR _ _ => true
  | .addAIxh => true
  | .addAIxl => true
  | .addAAtIx _ => true
  | .adcAIxh => true
  | .adcAIxl => true
  | .adcAAtIx _ => true
  | .subIxh => true
  | .subIxl => true
  | .subAtIx _ => true
  | .sbcAIxh => true
  | .sbcAIxl => true
  | .sbcAAtIx _ => true
  | .andIxh => true
  | .andIxl => true
  | .andAtIx _ => true
  | .xorIxh => true
  | .xorIxl => true
  | .xorAtIx _ => true
  | .orIxh => true
  | .orIxl => true
  | .orAtIx _ => true
  | .cpIxh => true
  | .cpIxl => true
  | .cpAtIx _ => true
  | .prefixDdcb => true
  | .popIx => true
  | .exAtSpIx => true
  | .pushIx => true
  | .jpIx => true
  | .prefixEdIdx => true
  | .ldSpIx => true
  | .addIyRr _ => true
  | .ldIyNn _ => true
  | .ldAtNnIy _ => true
  | .incIy => true
  | .incIyh => true
  | .decIyh => true
  | .ldIyhN _ => true
  | .ldIyAtNn _ => true
  | .decIy => true
  | .incIyl => true
  | .decIyl => true
  | .ldIylN _ => true
  | .incAtIy _ => true
  | .decAtIy _ => true
  | .ldAtIyN _ _ => true
  | .ldRRIy r src => isHalf r || isHalf src
  | .ldRAtIy _ _ => true
  | .ldAtIyR _ _ => true
  | .addAIyh => true
  | .addAIyl => true
  | .addAAtIy _ => true
  | .adcAIyh => true
  | .adcAIyl => true
  | .adcAAtIy _ => true
  | .subIyh => true
  | .subIyl => true
  | .subAtIy _ => true
  | .sbcAIyh => true
  | .sbcAIyl => true
  | .sbcAAtIy _ => true
  | .andIyh => true
  | .andIyl => true
  | .andAtIy _ => true
  | .xorIyh => true
  | .xorIyl => true
  | .xorAtIy _ => true
  | .orIyh => true
  | .orIyl => true
  | .orAtIy _ => true
  | .cpIyh => true
  | .cpIyl => true
  | .cpAtIy _ => true
  | .prefixFdcb => true
  | .popIy => true
  | .exAtSpIy => true
  | .pushIy => true
  | .jpIy => true
  | .ldSpIy => true
  | .rlcAtIxR _ _ => true
  | .rlcAtIx _ => true
  | .rrcAtIxR _ _ => true
  | .rrcAtIx _ => true
  | .rlAtIxR _ _ => true
  | .rlAtIx _ => true
  | .rrAtIxR _ _ => true
  | .rrAtIx _ => true
  | .slaAtIxR _ _ => true
  | .slaAtIx _ => true
  | .sraAtIxR _ _ => true
  | .sraAtIx _ => true
  | .sllAtIx _ _ => true
  | .srlAtIxR _ _ => true
  | .srlAtIx _ => true
  | .bitAtIxMirror _ _ _ => true
  | .bitAtIx _ _ => true
  | .resAtIxR _ _ _ => true
  | .resAtIx _ _ => true
  | .setAtIxR _ _ _ => true
  | .setAtIx _ _ => true
  | .rlcAtIyR _ _ => true
  | .rlcAtIy _ => true
  | .rrcAtIyR _ _ => true
  | .rrcAtIy _ => true
  | .rlAtIyR _ _ => true
  | .rlAtIy _ => true
  | .rrAtIyR _ _ => true
  | .rrAtIy _ => true
  | .slaAtIyR _ _ => true
  | .slaAtIy _ => true
  | .sraAtIyR _ _ => true
  | .sraAtIy _ => true
  | .sllAtIy _ _ => true
  | .srlAtIyR _ _ => true
  | .srlAtIy _ => true
  | .bitAtIyMirror _ _ _ => true
  | .bitAtIy _ _ => true
  | .resAtIyR _ _ _ => true
  | .resAtIy _ _ => true
  | .setAtIyR _ _ _ => true
  | .setAtIy _ _ => true
  | .fdcRestore _ _ => true
  | .fdcSeek _ _ => true
  | .fdcStep _ _ => true
  | .fdcStepUpdate _ _ => true
  | .fdcStepIn _ _ => true
  | .fdcStepInUpdate _ _ => true
  | .fdcStepOut _ _ => true
  | .fdcStepOutUpdate _ _ => true
  | .fdcReadSector _ _ => true
  | .fdcReadSectors _ _ => true
  | .fdcWriteSector _ _ => true
  | .fdcWriteSectors _ _ => true
  | .fdcReadAddress _ _ => true
  | .fdcForceInterrupt _ _ => true
  | .fdcReadTrack _ _ => true
  | .fdcWriteTrack _ _ => true

end Sys2Proof
end

