-- ==== Sys2Proof/Decode.lean ====
section
/-! DEFINITION. The decoder and, after it, the encoder, both written from 30_encoding.md. The machine fetches the opcode byte of an
instruction in one of the tables of R340 under an index mode (R312) and decodes it with `decodeOp`, which is total: no encoding is
illegal (R330). `decode` reads a whole instruction with its prefix bytes from a list of bytes and rejects, by name, only a list that
ends too soon. -/

namespace Sys2Proof

/-! ### Operand codes (R306 to R309) -/

/-- The 3-bit code of a register (R306). -/
def Reg8.code : Reg8 → BitVec 3
  | .b => 0#3 | .c => 1#3 | .d => 2#3 | .e => 3#3 | .h => 4#3 | .l => 5#3 | .a => 7#3

/-- The register of a 3-bit code (R306). Code 6 is the memory operand: every caller has taken it out first. -/
def Reg8.ofCode : Nat → Reg8
  | 0 => .b | 1 => .c | 2 => .d | 3 => .e | 4 => .h | 5 => .l | _ => .a

/-- The 2-bit code of a pair (R307). -/
def RP.code : RP → BitVec 2
  | .bc => 0#2 | .de => 1#2 | .hl => 2#2 | .sp => 3#2

/-- The pair of a 2-bit code (R307). -/
def RP.ofCode : Nat → RP
  | 0 => .bc | 1 => .de | 2 => .hl | _ => .sp

/-- The 2-bit code of a pair of PUSH and POP (R308). -/
def RP2.code : RP2 → BitVec 2
  | .bc => 0#2 | .de => 1#2 | .hl => 2#2 | .af => 3#2

/-- The pair of a 2-bit code of PUSH and POP (R308). -/
def RP2.ofCode : Nat → RP2
  | 0 => .bc | 1 => .de | 2 => .hl | _ => .af

/-- The 2-bit code of an operand of ADD IX or ADD IY (R307). -/
def RPX.code : RPX → BitVec 2
  | .bc => 0#2 | .de => 1#2 | .self => 2#2 | .sp => 3#2

/-- The operand of ADD IX or ADD IY of a 2-bit code (R307). -/
def RPX.ofCode : Nat → RPX
  | 0 => .bc | 1 => .de | 2 => .self | _ => .sp

/-- The 3-bit code of a condition (R309). -/
def Cond.code : Cond → BitVec 3
  | .nz => 0#3 | .z => 1#3 | .nc => 2#3 | .c => 3#3 | .po => 4#3 | .pe => 5#3 | .p => 6#3 | .m => 7#3

/-- The condition of a 3-bit code (R309). -/
def Cond.ofCode : Nat → Cond
  | 0 => .nz | 1 => .z | 2 => .nc | 3 => .c | 4 => .po | 5 => .pe | 6 => .p | _ => .m

/-! ### Fields of an opcode byte (R302) -/

/-- `x = b[7:6]`. -/
def fieldX (b : Byte) : Nat := b.toNat / 64
/-- `y = b[5:3]`. -/
def fieldY (b : Byte) : Nat := b.toNat / 8 % 8
/-- `z = b[2:0]`. -/
def fieldZ (b : Byte) : Nat := b.toNat % 8
/-- `p = b[5:4]`. -/
def fieldP (b : Byte) : Nat := b.toNat / 16 % 4
/-- `q = b[3]`. -/
def fieldQ (b : Byte) : Nat := b.toNat / 8 % 2

/-- The low byte of a word. -/
def loByte (w : Word) : Byte := w.extractLsb' 0 8
/-- The high byte of a word. -/
def hiByte (w : Word) : Byte := w.extractLsb' 8 8

/-! ### The main table (R320 to R322)

Each function answers the instruction and how many bytes it takes, its opcode byte among them. -/

/-- Main table, `x = 0` (R320). -/
def decodeMain0 (op b1 b2 : Byte) : Instr × Nat :=
  let nn := Word.ofBytes b2 b1
  let y := fieldY op
  let p := fieldP op
  match fieldZ op, fieldQ op with
  | 0, _ =>
    match y with
    | 0 => (.nop, 1)
    | 1 => (.exAfAf, 1)
    | 2 => (.djnz b1, 2)
    | 3 => (.jr b1, 2)
    | 4 => (.jrNz b1, 2)
    | 5 => (.jrZ b1, 2)
    | 6 => (.jrNc b1, 2)
    | _ => (.jrC b1, 2)
  | 1, 0 => (.ldDdNn (.ofCode p) nn, 3)
  | 1, _ => (.addHlSs (.ofCode p), 1)
  | 2, 0 =>
    match p with
    | 0 => (.ldAtBcA, 1)
    | 1 => (.ldAtDeA, 1)
    | 2 => (.ldAtNnHl nn, 3)
    | _ => (.ldAtNnA nn, 3)
  | 2, _ =>
    match p with
    | 0 => (.ldAAtBc, 1)
    | 1 => (.ldAAtDe, 1)
    | 2 => (.ldHlAtNn nn, 3)
    | _ => (.ldAAtNn nn, 3)
  | 3, 0 => (.incSs (.ofCode p), 1)
  | 3, _ => (.decSs (.ofCode p), 1)
  | 4, _ => if y = 6 then (.incAtHl, 1) else (.incR (.ofCode y), 1)
  | 5, _ => if y = 6 then (.decAtHl, 1) else (.decR (.ofCode y), 1)
  | 6, _ => if y = 6 then (.ldAtHlN b1, 2) else (.ldRN (.ofCode y) b1, 2)
  | _, _ =>
    match y with
    | 0 => (.rlca, 1)
    | 1 => (.rrca, 1)
    | 2 => (.rla, 1)
    | 3 => (.rra, 1)
    | 4 => (.daa, 1)
    | 5 => (.cpl, 1)
    | 6 => (.scf, 1)
    | _ => (.ccf, 1)

/-- Main table, `x = 1` (R321). -/
def decodeMain1 (op : Byte) : Instr × Nat :=
  let y := fieldY op
  let z := fieldZ op
  if z = 6 then if y = 6 then (.halt, 1) else (.ldRAtHl (.ofCode y), 1)
  else if y = 6 then (.ldAtHlR (.ofCode z), 1)
  else (.ldRR (.ofCode y) (.ofCode z), 1)

/-- ALU operation `y` on a register (R310). -/
def aluR (y : Nat) (s : Reg8) : Instr :=
  match y with
  | 0 => .addAR s
  | 1 => .adcAR s
  | 2 => .subR s
  | 3 => .sbcAR s
  | 4 => .andR s
  | 5 => .xorR s
  | 6 => .orR s
  | _ => .cpR s

/-- ALU operation `y` on the byte at HL (R310). -/
def aluAtHl (y : Nat) : Instr :=
  match y with
  | 0 => .addAAtHl
  | 1 => .adcAAtHl
  | 2 => .subAtHl
  | 3 => .sbcAAtHl
  | 4 => .andAtHl
  | 5 => .xorAtHl
  | 6 => .orAtHl
  | _ => .cpAtHl

/-- ALU operation `y` on an immediate (R310). -/
def aluN (y : Nat) (n : Byte) : Instr :=
  match y with
  | 0 => .addAN n
  | 1 => .adcAN n
  | 2 => .subN n
  | 3 => .sbcAN n
  | 4 => .andN n
  | 5 => .xorN n
  | 6 => .orN n
  | _ => .cpN n

/-- Main table, `x = 2` (R321). -/
def decodeMain2 (op : Byte) : Instr × Nat :=
  if fieldZ op = 6 then (aluAtHl (fieldY op), 1) else (aluR (fieldY op) (.ofCode (fieldZ op)), 1)

/-- Main table, `x = 3` (R322). -/
def decodeMain3 (op b1 b2 : Byte) : Instr × Nat :=
  let nn := Word.ofBytes b2 b1
  let y := fieldY op
  let p := fieldP op
  match fieldZ op, fieldQ op with
  | 0, _ => (.retCc (.ofCode y), 1)
  | 1, 0 => (.popQq (.ofCode p), 1)
  | 1, _ =>
    match p with
    | 0 => (.ret, 1)
    | 1 => (.exx, 1)
    | 2 => (.jpHl, 1)
    | _ => (.ldSpHl, 1)
  | 2, _ => (.jpCcNn (.ofCode y) nn, 3)
  | 3, _ =>
    match y with
    | 0 => (.jpNn nn, 3)
    | 1 => (.prefixCb, 1)
    | 2 => (.outNA b1, 2)
    | 3 => (.inAN b1, 2)
    | 4 => (.exAtSpHl, 1)
    | 5 => (.exDeHl, 1)
    | 6 => (.di, 1)
    | _ => (.ei, 1)
  | 4, _ => (.callCcNn (.ofCode y) nn, 3)
  | 5, 0 => (.pushQq (.ofCode p), 1)
  | 5, _ =>
    match p with
    | 0 => (.callNn nn, 3)
    | 1 => (.prefixDd, 1)
    | 2 => (.prefixEd, 1)
    | _ => (.prefixFd, 1)
  | 6, _ => (aluN y b1, 2)
  | _, _ => (.rst (.ofNat 3 y), 1)

/-- The main table with no index mode (R320 to R322). -/
def decodeMain (op b1 b2 : Byte) : Instr × Nat :=
  match fieldX op with
  | 0 => decodeMain0 op b1 b2
  | 1 => decodeMain1 op
  | 2 => decodeMain2 op
  | _ => decodeMain3 op b1 b2

/-! ### The main table under index mode IX (R312) -/

/-- ALU operation `y` on IXH (R310, R811). -/
def aluIxh (y : Nat) : Instr :=
  match y with
  | 0 => .addAIxh
  | 1 => .adcAIxh
  | 2 => .subIxh
  | 3 => .sbcAIxh
  | 4 => .andIxh
  | 5 => .xorIxh
  | 6 => .orIxh
  | _ => .cpIxh

/-- ALU operation `y` on IXL (R310, R811). -/
def aluIxl (y : Nat) : Instr :=
  match y with
  | 0 => .addAIxl
  | 1 => .adcAIxl
  | 2 => .subIxl
  | 3 => .sbcAIxl
  | 4 => .andIxl
  | 5 => .xorIxl
  | 6 => .orIxl
  | _ => .cpIxl

/-- ALU operation `y` on the byte at IX + d (R310, R312 (b)). -/
def aluAtIx (y : Nat) (d : Byte) : Instr :=
  match y with
  | 0 => .addAAtIx d
  | 1 => .adcAAtIx d
  | 2 => .subAtIx d
  | 3 => .sbcAAtIx d
  | 4 => .andAtIx d
  | 5 => .xorAtIx d
  | 6 => .orAtIx d
  | _ => .cpAtIx d

/-- The main table under index mode IX: what R312 (a), (b), (c) and (e) change; every other opcode is as unprefixed (R812). -/
def decodeMainIx (op b1 b2 : Byte) : Instr × Nat :=
  let nn := Word.ofBytes b2 b1
  let y := fieldY op
  let z := fieldZ op
  let p := fieldP op
  let q := fieldQ op
  match fieldX op with
  | 0 =>
    match z, y with
    | 1, _ => if q = 1 then (.addIxPp (.ofCode p), 1) else if p = 2 then (.ldIxNn nn, 3) else decodeMain op b1 b2
    | 2, 4 => (.ldAtNnIx nn, 3)
    | 2, 5 => (.ldIxAtNn nn, 3)
    | 3, 4 => (.incIx, 1)
    | 3, 5 => (.decIx, 1)
    | 4, 4 => (.incIxh, 1)
    | 4, 5 => (.incIxl, 1)
    | 4, 6 => (.incAtIx b1, 2)
    | 5, 4 => (.decIxh, 1)
    | 5, 5 => (.decIxl, 1)
    | 5, 6 => (.decAtIx b1, 2)
    | 6, 4 => (.ldIxhN b1, 2)
    | 6, 5 => (.ldIxlN b1, 2)
    | 6, 6 => (.ldAtIxN b1 b2, 3)
    | _, _ => decodeMain op b1 b2
  | 1 =>
    if z = 6 then if y = 6 then decodeMain op b1 b2 else (.ldRAtIx (.ofCode y) b1, 2)
    else if y = 6 then (.ldAtIxR (.ofCode z) b1, 2)
    else if y = 4 ∨ y = 5 ∨ z = 4 ∨ z = 5 then (.ldRRIx (.ofCode y) (.ofCode z), 1)
    else decodeMain op b1 b2
  | 2 =>
    match z with
    | 4 => (aluIxh y, 1)
    | 5 => (aluIxl y, 1)
    | 6 => (aluAtIx y b1, 2)
    | _ => decodeMain op b1 b2
  | _ =>
    match z, y with
    | 1, 4 => (.popIx, 1)
    | 1, 5 => (.jpIx, 1)
    | 1, 7 => (.ldSpIx, 1)
    | 3, 1 => (.prefixDdcb, 1)
    | 3, 4 => (.exAtSpIx, 1)
    | 5, 4 => (.pushIx, 1)
    | 5, 5 => (.prefixEdIdx, 1)
    | _, _ => decodeMain op b1 b2

/-! ### The main table under index mode IY (R312) -/

/-- ALU operation `y` on IYH (R310, R811). -/
def aluIyh (y : Nat) : Instr :=
  match y with
  | 0 => .addAIyh
  | 1 => .adcAIyh
  | 2 => .subIyh
  | 3 => .sbcAIyh
  | 4 => .andIyh
  | 5 => .xorIyh
  | 6 => .orIyh
  | _ => .cpIyh

/-- ALU operation `y` on IYL (R310, R811). -/
def aluIyl (y : Nat) : Instr :=
  match y with
  | 0 => .addAIyl
  | 1 => .adcAIyl
  | 2 => .subIyl
  | 3 => .sbcAIyl
  | 4 => .andIyl
  | 5 => .xorIyl
  | 6 => .orIyl
  | _ => .cpIyl

/-- ALU operation `y` on the byte at IY + d (R310, R312 (b)). -/
def aluAtIy (y : Nat) (d : Byte) : Instr :=
  match y with
  | 0 => .addAAtIy d
  | 1 => .adcAAtIy d
  | 2 => .subAtIy d
  | 3 => .sbcAAtIy d
  | 4 => .andAtIy d
  | 5 => .xorAtIy d
  | 6 => .orAtIy d
  | _ => .cpAtIy d

/-- The main table under index mode IY: what R312 (a), (b), (c) and (e) change; every other opcode is as unprefixed (R812). -/
def decodeMainIy (op b1 b2 : Byte) : Instr × Nat :=
  let nn := Word.ofBytes b2 b1
  let y := fieldY op
  let z := fieldZ op
  let p := fieldP op
  let q := fieldQ op
  match fieldX op with
  | 0 =>
    match z, y with
    | 1, _ => if q = 1 then (.addIyRr (.ofCode p), 1) else if p = 2 then (.ldIyNn nn, 3) else decodeMain op b1 b2
    | 2, 4 => (.ldAtNnIy nn, 3)
    | 2, 5 => (.ldIyAtNn nn, 3)
    | 3, 4 => (.incIy, 1)
    | 3, 5 => (.decIy, 1)
    | 4, 4 => (.incIyh, 1)
    | 4, 5 => (.incIyl, 1)
    | 4, 6 => (.incAtIy b1, 2)
    | 5, 4 => (.decIyh, 1)
    | 5, 5 => (.decIyl, 1)
    | 5, 6 => (.decAtIy b1, 2)
    | 6, 4 => (.ldIyhN b1, 2)
    | 6, 5 => (.ldIylN b1, 2)
    | 6, 6 => (.ldAtIyN b1 b2, 3)
    | _, _ => decodeMain op b1 b2
  | 1 =>
    if z = 6 then if y = 6 then decodeMain op b1 b2 else (.ldRAtIy (.ofCode y) b1, 2)
    else if y = 6 then (.ldAtIyR (.ofCode z) b1, 2)
    else if y = 4 ∨ y = 5 ∨ z = 4 ∨ z = 5 then (.ldRRIy (.ofCode y) (.ofCode z), 1)
    else decodeMain op b1 b2
  | 2 =>
    match z with
    | 4 => (aluIyh y, 1)
    | 5 => (aluIyl y, 1)
    | 6 => (aluAtIy y b1, 2)
    | _ => decodeMain op b1 b2
  | _ =>
    match z, y with
    | 1, 4 => (.popIy, 1)
    | 1, 5 => (.jpIy, 1)
    | 1, 7 => (.ldSpIy, 1)
    | 3, 1 => (.prefixFdcb, 1)
    | 3, 4 => (.exAtSpIy, 1)
    | 5, 4 => (.pushIy, 1)
    | 5, 5 => (.prefixEdIdx, 1)
    | _, _ => decodeMain op b1 b2

/-! ### The CB table (R323) and the ED table (R324) -/

/-- The CB table (R323). -/
def decodeCb (op : Byte) : Instr × Nat :=
  let y := fieldY op
  let z := fieldZ op
  let b : BitVec 3 := .ofNat 3 y
  let r := Reg8.ofCode z
  match fieldX op with
  | 0 =>
    match y with
    | 0 => (if z = 6 then .rlcAtHl else .rlcR r, 1)
    | 1 => (if z = 6 then .rrcAtHl else .rrcR r, 1)
    | 2 => (if z = 6 then .rlAtHl else .rlR r, 1)
    | 3 => (if z = 6 then .rrAtHl else .rrR r, 1)
    | 4 => (if z = 6 then .slaAtHl else .slaR r, 1)
    | 5 => (if z = 6 then .sraAtHl else .sraR r, 1)
    | 6 => (.sll (.ofNat 3 z), 1)
    | _ => (if z = 6 then .srlAtHl else .srlR r, 1)
  | 1 => (if z = 6 then .bitAtHl b else .bitR b r, 1)
  | 2 => (if z = 6 then .resAtHl b else .resR b r, 1)
  | _ => (if z = 6 then .setAtHl b else .setR b r, 1)

/-- ED table, `x = 1` (R324). -/
def decodeEd1 (op b1 b2 : Byte) : Instr × Nat :=
  let nn := Word.ofBytes b2 b1
  let y := fieldY op
  let p := fieldP op
  match fieldZ op, fieldQ op with
  | 0, _ => (if y = 6 then .inFC else .inRC (.ofCode y), 1)
  | 1, _ => (if y = 6 then .outC0 else .outCR (.ofCode y), 1)
  | 2, 0 => (.sbcHlSs (.ofCode p), 1)
  | 2, _ => (.adcHlSs (.ofCode p), 1)
  | 3, 0 => (if p = 2 then .ldAtNnHlEd nn else .ldAtNnDd (.ofCode p) nn, 3)
  | 3, _ => (if p = 2 then .ldHlAtNnEd nn else .ldDdAtNn (.ofCode p) nn, 3)
  | 4, _ => (if y = 0 then .neg else .negMirror (.ofNat 3 y), 1)
  | 5, _ =>
    match y with
    | 0 => (.retn, 1)
    | 1 => (.reti, 1)
    | _ => (.retnMirror (.ofNat 3 y), 1)
  | 6, _ =>
    match y with
    | 0 => (.im0, 1)
    | 2 => (.im1, 1)
    | 3 => (.im2, 1)
    | 6 => (.im1Mirror, 1)
    | 7 => (.im2Mirror, 1)
    | _ => (.im0Mirror (.ofNat 3 y), 1)
  | _, _ =>
    match y with
    | 0 => (.ldIA, 1)
    | 1 => (.ldRA, 1)
    | 2 => (.ldAI, 1)
    | 3 => (.ldAR, 1)
    | 4 => (.rrd, 1)
    | 5 => (.rld, 1)
    | _ => (.nopEd77 (.ofNat 3 y), 1)

/-- The block instructions of the ED table: `x = 2`, `y` 4 to 7, `z` 0 to 3 (R324). -/
def decodeEdBlock (y z : Nat) : Instr :=
  match y, z with
  | 4, 0 => .ldi
  | 4, 1 => .cpi
  | 4, 2 => .ini
  | 4, _ => .outi
  | 5, 0 => .ldd
  | 5, 1 => .cpd
  | 5, 2 => .ind
  | 5, _ => .outd
  | 6, 0 => .ldir
  | 6, 1 => .cpir
  | 6, 2 => .inir
  | 6, _ => .otir
  | _, 0 => .lddr
  | _, 1 => .cpdr
  | _, 2 => .indr
  | _, _ => .otdr

/-- The ED table (R324): what it does not assign is the fallback (49_undocumented_and_fallback.md R823). -/
def decodeEd (op b1 b2 : Byte) : Instr × Nat :=
  if fieldX op = 1 then decodeEd1 op b1 b2
  else if fieldX op = 2 ∧ 4 ≤ fieldY op ∧ fieldZ op ≤ 3 then (decodeEdBlock (fieldY op) (fieldZ op), 1)
  else (.edNop op, 1)

/-- The CB table under index mode IX (R323, R815): the displacement byte, then the sub-opcode. -/
def decodeDdcb (d op : Byte) : Instr × Nat :=
  let y := fieldY op
  let z := fieldZ op
  let b : BitVec 3 := .ofNat 3 y
  let r := Reg8.ofCode z
  match fieldX op with
  | 0 =>
    match y with
    | 0 => (if z = 6 then .rlcAtIx d else .rlcAtIxR d r, 2)
    | 1 => (if z = 6 then .rrcAtIx d else .rrcAtIxR d r, 2)
    | 2 => (if z = 6 then .rlAtIx d else .rlAtIxR d r, 2)
    | 3 => (if z = 6 then .rrAtIx d else .rrAtIxR d r, 2)
    | 4 => (if z = 6 then .slaAtIx d else .slaAtIxR d r, 2)
    | 5 => (if z = 6 then .sraAtIx d else .sraAtIxR d r, 2)
    | 6 => (.sllAtIx d (.ofNat 3 z), 2)
    | _ => (if z = 6 then .srlAtIx d else .srlAtIxR d r, 2)
  | 1 => (if z = 6 then .bitAtIx d b else .bitAtIxMirror d b r, 2)
  | 2 => (if z = 6 then .resAtIx d b else .resAtIxR d b r, 2)
  | _ => (if z = 6 then .setAtIx d b else .setAtIxR d b r, 2)

/-- The CB table under index mode IY (R323, R815): the displacement byte, then the sub-opcode. -/
def decodeFdcb (d op : Byte) : Instr × Nat :=
  let y := fieldY op
  let z := fieldZ op
  let b : BitVec 3 := .ofNat 3 y
  let r := Reg8.ofCode z
  match fieldX op with
  | 0 =>
    match y with
    | 0 => (if z = 6 then .rlcAtIy d else .rlcAtIyR d r, 2)
    | 1 => (if z = 6 then .rrcAtIy d else .rrcAtIyR d r, 2)
    | 2 => (if z = 6 then .rlAtIy d else .rlAtIyR d r, 2)
    | 3 => (if z = 6 then .rrAtIy d else .rrAtIyR d r, 2)
    | 4 => (if z = 6 then .slaAtIy d else .slaAtIyR d r, 2)
    | 5 => (if z = 6 then .sraAtIy d else .sraAtIyR d r, 2)
    | 6 => (.sllAtIy d (.ofNat 3 z), 2)
    | _ => (if z = 6 then .srlAtIy d else .srlAtIyR d r, 2)
  | 1 => (if z = 6 then .bitAtIy d b else .bitAtIyMirror d b r, 2)
  | 2 => (if z = 6 then .resAtIy d b else .resAtIyR d b r, 2)
  | _ => (if z = 6 then .setAtIy d b else .setAtIyR d b r, 2)

/-! ### One opcode, and a whole instruction -/

/-- The instruction whose opcode byte (for DDCB and FDCB, whose displacement byte) is `b0`, looked up in a table under an index mode
(R312, R340), with the two bytes after it, and how many bytes it takes. -/
def decodeOp (t : OpTable) (x : IndexMode) (b0 b1 b2 : Byte) : Instr × Nat :=
  match t, x with
  | .main, .hl => decodeMain b0 b1 b2
  | .main, .ix => decodeMainIx b0 b1 b2
  | .main, .iy => decodeMainIy b0 b1 b2
  | .cb, _ => decodeCb b0
  | .ed, _ => decodeEd b0 b1 b2
  | .ddcb, _ => decodeDdcb b0 b1
  | .fdcb, _ => decodeFdcb b0 b1

/-- The command of a command byte written to the FDC (62_fdc.md R1112), for the side the port address names (R1101). -/
def decodeFdcCommand (side : Bool) (v : Byte) : Instr :=
  let f : BitVec 4 := v.extractLsb' 0 4
  match v.toNat / 16 with
  | 0 => .fdcRestore side f
  | 1 => .fdcSeek side f
  | 2 => .fdcStep side f
  | 3 => .fdcStepUpdate side f
  | 4 => .fdcStepIn side f
  | 5 => .fdcStepInUpdate side f
  | 6 => .fdcStepOut side f
  | 7 => .fdcStepOutUpdate side f
  | 8 => .fdcReadSector side f
  | 9 => .fdcReadSectors side f
  | 10 => .fdcWriteSector side f
  | 11 => .fdcWriteSectors side f
  | 12 => .fdcReadAddress side f
  | 13 => .fdcForceInterrupt side f
  | 14 => .fdcReadTrack side f
  | _ => .fdcWriteTrack side f

/-- Where an instruction's bytes come from: the CPU's instruction stream, or a command byte written to the FDC at a port whose
address names the side. -/
inductive CodeSpace where
  | cpu
  | fdcCommand (side : Bool)
  deriving DecidableEq, Repr

/-- Why a list of bytes is not an instruction: the only reason is that it ends too soon (R330: no encoding is illegal). -/
inductive DecodeError where
  /-- The bytes end before the instruction does. Raised by `decode` alone: the machine always has a next byte. -/
  | truncated
  deriving DecidableEq, Repr

/-- `decodeOp` on a list of bytes: the instruction and the bytes after it. -/
def decodeFrom (t : OpTable) (x : IndexMode) (bytes : List Byte) : Except DecodeError (Instr × List Byte) :=
  match bytes with
  | [] => .error .truncated
  | b0 :: rest =>
    let r := decodeOp t x b0 (rest.headD 0#8) ((rest.drop 1).headD 0#8)
    if bytes.length < r.2 then .error .truncated else .ok (r.1, bytes.drop r.2)

/-- The table and the index mode in which the byte after a prefix byte is looked up (R312, R313, R315). -/
def Instr.chase : Instr → Option (OpTable × IndexMode)
  | .prefixCb => some (.cb, .hl)
  | .prefixEd => some (.ed, .hl)
  | .prefixEdIdx => some (.ed, .hl)
  | .prefixDd => some (.main, .ix)
  | .prefixFd => some (.main, .iy)
  | .prefixDdcb => some (.ddcb, .ix)
  | .prefixFdcb => some (.fdcb, .iy)
  | _ => none

/-- Decode at most `fuel` opcode bytes, following prefix bytes while bytes are left; a prefix byte that ends the list, or stands
where the fuel ends, is itself the instruction. -/
def decodeChain (fuel : Nat) (t : OpTable) (x : IndexMode) (bytes : List Byte) : Except DecodeError (Instr × List Byte) :=
  match fuel with
  | 0 => decodeFrom t x bytes
  | fuel + 1 =>
    match decodeFrom t x bytes with
    | .error e => .error e
    | .ok (i, rest) =>
      match i.chase, rest with
      | some (t', x'), b :: more => decodeChain fuel t' x' (b :: more)
      | _, _ => .ok (i, rest)

/-- Decode a whole instruction: for the CPU its prefix bytes, opcode and operands in fetch order (R300), for the FDC its command
byte. Answers the instruction and the bytes after it. -/
def decode (sp : CodeSpace) (bytes : List Byte) : Except DecodeError (Instr × List Byte) :=
  match sp with
  | .cpu => decodeChain bytes.length .main .hl bytes
  | .fdcCommand side =>
    match bytes with
    | [] => .error .truncated
    | b :: rest => .ok (decodeFdcCommand side b, rest)

/-- The instruction the machine's decoder reads at the start of a step from the bits `w`, numbered as `spec/opcode_table.json`
numbers them: byte `k` is bits `8k + 7` to `8k`, and every bit from `nbits` on is 0. The table gives each row its opcode byte alone, so
a row of a sub-table is read in the main table here (log entry 19). -/
def decodeTableWord (nbits w : Nat) : Option Instr :=
  let v := w % 2 ^ nbits
  some (decodeOp .main .hl (.ofNat 8 v) (.ofNat 8 (v / 2 ^ 8)) (.ofNat 8 (v / 2 ^ 16))).1

/-! ### The encoder, from the patterns of 30_encoding.md R301 and the rule of each instruction -/

/-- Where the bytes of an instruction are read. -/
def Instr.space : Instr → CodeSpace
  | .fdcRestore side _ => .fdcCommand side
  | .fdcSeek side _ => .fdcCommand side
  | .fdcStep side _ => .fdcCommand side
  | .fdcStepUpdate side _ => .fdcCommand side
  | .fdcStepIn side _ => .fdcCommand side
  | .fdcStepInUpdate side _ => .fdcCommand side
  | .fdcStepOut side _ => .fdcCommand side
  | .fdcStepOutUpdate side _ => .fdcCommand side
  | .fdcReadSector side _ => .fdcCommand side
  | .fdcReadSectors side _ => .fdcCommand side
  | .fdcWriteSector side _ => .fdcCommand side
  | .fdcWriteSectors side _ => .fdcCommand side
  | .fdcReadAddress side _ => .fdcCommand side
  | .fdcForceInterrupt side _ => .fdcCommand side
  | .fdcReadTrack side _ => .fdcCommand side
  | .fdcWriteTrack side _ => .fdcCommand side
  | _ => .cpu

/-- The bytes of an instruction in fetch order, its prefix bytes first (R300). -/
def encode : Instr → List Byte
  | .nop => [0x00#8]
  | .ldDdNn dd nn => [(0b00#2 ++ dd.code ++ 0b0001#4), loByte nn, hiByte nn]
  | .ldAtBcA => [0x02#8]
  | .incSs ss => [(0b00#2 ++ ss.code ++ 0b0011#4)]
  | .incR r => [(0b00#2 ++ r.code ++ 0b100#3)]
  | .decR r => [(0b00#2 ++ r.code ++ 0b101#3)]
  | .ldRN r n => [(0b00#2 ++ r.code ++ 0b110#3), n]
  | .rlca => [0x07#8]
  | .exAfAf => [0x08#8]
  | .addHlSs ss => [(0b00#2 ++ ss.code ++ 0b1001#4)]
  | .ldAAtBc => [0x0A#8]
  | .decSs ss => [(0b00#2 ++ ss.code ++ 0b1011#4)]
  | .rrca => [0x0F#8]
  | .djnz e => [0x10#8, e]
  | .ldAtDeA => [0x12#8]
  | .rla => [0x17#8]
  | .jr e => [0x18#8, e]
  | .ldAAtDe => [0x1A#8]
  | .rra => [0x1F#8]
  | .jrNz e => [0x20#8, e]
  | .ldAtNnHl nn => [0x22#8, loByte nn, hiByte nn]
  | .daa => [0x27#8]
  | .jrZ e => [0x28#8, e]
  | .ldHlAtNn nn => [0x2A#8, loByte nn, hiByte nn]
  | .cpl => [0x2F#8]
  | .jrNc e => [0x30#8, e]
  | .ldAtNnA nn => [0x32#8, loByte nn, hiByte nn]
  | .incAtHl => [0x34#8]
  | .decAtHl => [0x35#8]
  | .ldAtHlN n => [0x36#8, n]
  | .scf => [0x37#8]
  | .jrC e => [0x38#8, e]
  | .ldAAtNn nn => [0x3A#8, loByte nn, hiByte nn]
  | .ccf => [0x3F#8]
  | .ldRR r src => [(0b01#2 ++ r.code ++ src.code)]
  | .ldRAtHl r => [(0b01#2 ++ r.code ++ 0b110#3)]
  | .ldAtHlR src => [(0b01110#5 ++ src.code)]
  | .halt => [0x76#8]
  | .addAR src => [(0b10000#5 ++ src.code)]
  | .addAAtHl => [0x86#8]
  | .addAN n => [0xC6#8, n]
  | .adcAR src => [(0b10001#5 ++ src.code)]
  | .adcAAtHl => [0x8E#8]
  | .adcAN n => [0xCE#8, n]
  | .subR src => [(0b10010#5 ++ src.code)]
  | .subAtHl => [0x96#8]
  | .subN n => [0xD6#8, n]
  | .sbcAR src => [(0b10011#5 ++ src.code)]
  | .sbcAAtHl => [0x9E#8]
  | .sbcAN n => [0xDE#8, n]
  | .andR src => [(0b10100#5 ++ src.code)]
  | .andAtHl => [0xA6#8]
  | .andN n => [0xE6#8, n]
  | .xorR src => [(0b10101#5 ++ src.code)]
  | .xorAtHl => [0xAE#8]
  | .xorN n => [0xEE#8, n]
  | .orR src => [(0b10110#5 ++ src.code)]
  | .orAtHl => [0xB6#8]
  | .orN n => [0xF6#8, n]
  | .cpR src => [(0b10111#5 ++ src.code)]
  | .cpAtHl => [0xBE#8]
  | .cpN n => [0xFE#8, n]
  | .retCc cc => [(0b11#2 ++ cc.code ++ 0b000#3)]
  | .popQq qq => [(0b11#2 ++ qq.code ++ 0b0001#4)]
  | .jpCcNn cc nn => [(0b11#2 ++ cc.code ++ 0b010#3), loByte nn, hiByte nn]
  | .jpNn nn => [0xC3#8, loByte nn, hiByte nn]
  | .callCcNn cc nn => [(0b11#2 ++ cc.code ++ 0b100#3), loByte nn, hiByte nn]
  | .pushQq qq => [(0b11#2 ++ qq.code ++ 0b0101#4)]
  | .rst t => [(0b11#2 ++ t ++ 0b111#3)]
  | .ret => [0xC9#8]
  | .prefixCb => [0xCB#8]
  | .callNn nn => [0xCD#8, loByte nn, hiByte nn]
  | .outNA n => [0xD3#8, n]
  | .exx => [0xD9#8]
  | .inAN n => [0xDB#8, n]
  | .prefixDd => [0xDD#8]
  | .exAtSpHl => [0xE3#8]
  | .jpHl => [0xE9#8]
  | .exDeHl => [0xEB#8]
  | .prefixEd => [0xED#8]
  | .di => [0xF3#8]
  | .ldSpHl => [0xF9#8]
  | .ei => [0xFB#8]
  | .prefixFd => [0xFD#8]
  | .rlcR r => [0xCB#8, (0b00000#5 ++ r.code)]
  | .rlcAtHl => [0xCB#8, 0x06#8]
  | .rrcR r => [0xCB#8, (0b00001#5 ++ r.code)]
  | .rrcAtHl => [0xCB#8, 0x0E#8]
  | .rlR r => [0xCB#8, (0b00010#5 ++ r.code)]
  | .rlAtHl => [0xCB#8, 0x16#8]
  | .rrR r => [0xCB#8, (0b00011#5 ++ r.code)]
  | .rrAtHl => [0xCB#8, 0x1E#8]
  | .slaR r => [0xCB#8, (0b00100#5 ++ r.code)]
  | .slaAtHl => [0xCB#8, 0x26#8]
  | .sraR r => [0xCB#8, (0b00101#5 ++ r.code)]
  | .sraAtHl => [0xCB#8, 0x2E#8]
  | .sll z => [0xCB#8, (0b00110#5 ++ z)]
  | .srlR r => [0xCB#8, (0b00111#5 ++ r.code)]
  | .srlAtHl => [0xCB#8, 0x3E#8]
  | .bitR b r => [0xCB#8, (0b01#2 ++ b ++ r.code)]
  | .bitAtHl b => [0xCB#8, (0b01#2 ++ b ++ 0b110#3)]
  | .resR b r => [0xCB#8, (0b10#2 ++ b ++ r.code)]
  | .resAtHl b => [0xCB#8, (0b10#2 ++ b ++ 0b110#3)]
  | .setR b r => [0xCB#8, (0b11#2 ++ b ++ r.code)]
  | .setAtHl b => [0xCB#8, (0b11#2 ++ b ++ 0b110#3)]
  | .edNop op => [0xED#8, op]
  | .inRC r => [0xED#8, (0b01#2 ++ r.code ++ 0b000#3)]
  | .outCR r => [0xED#8, (0b01#2 ++ r.code ++ 0b001#3)]
  | .sbcHlSs ss => [0xED#8, (0b01#2 ++ ss.code ++ 0b0010#4)]
  | .ldAtNnDd dd nn => [0xED#8, (0b01#2 ++ dd.code ++ 0b0011#4), loByte nn, hiByte nn]
  | .neg => [0xED#8, 0x44#8]
  | .retn => [0xED#8, 0x45#8]
  | .im0 => [0xED#8, 0x46#8]
  | .ldIA => [0xED#8, 0x47#8]
  | .adcHlSs ss => [0xED#8, (0b01#2 ++ ss.code ++ 0b1010#4)]
  | .ldDdAtNn dd nn => [0xED#8, (0b01#2 ++ dd.code ++ 0b1011#4), loByte nn, hiByte nn]
  | .negMirror y => [0xED#8, (0b01#2 ++ y ++ 0b100#3)]
  | .reti => [0xED#8, 0x4D#8]
  | .im0Mirror y => [0xED#8, (0b01#2 ++ y ++ 0b110#3)]
  | .ldRA => [0xED#8, 0x4F#8]
  | .retnMirror y => [0xED#8, (0b01#2 ++ y ++ 0b101#3)]
  | .im1 => [0xED#8, 0x56#8]
  | .ldAI => [0xED#8, 0x57#8]
  | .im2 => [0xED#8, 0x5E#8]
  | .ldAR => [0xED#8, 0x5F#8]
  | .ldAtNnHlEd nn => [0xED#8, 0x63#8, loByte nn, hiByte nn]
  | .rrd => [0xED#8, 0x67#8]
  | .ldHlAtNnEd nn => [0xED#8, 0x6B#8, loByte nn, hiByte nn]
  | .rld => [0xED#8, 0x6F#8]
  | .inFC => [0xED#8, 0x70#8]
  | .outC0 => [0xED#8, 0x71#8]
  | .im1Mirror => [0xED#8, 0x76#8]
  | .nopEd77 y => [0xED#8, (0b01#2 ++ y ++ 0b111#3)]
  | .im2Mirror => [0xED#8, 0x7E#8]
  | .ldi => [0xED#8, 0xA0#8]
  | .cpi => [0xED#8, 0xA1#8]
  | .ini => [0xED#8, 0xA2#8]
  | .outi => [0xED#8, 0xA3#8]
  | .ldd => [0xED#8, 0xA8#8]
  | .cpd => [0xED#8, 0xA9#8]
  | .ind => [0xED#8, 0xAA#8]
  | .outd => [0xED#8, 0xAB#8]
  | .ldir => [0xED#8, 0xB0#8]
  | .cpir => [0xED#8, 0xB1#8]
  | .inir => [0xED#8, 0xB2#8]
  | .otir => [0xED#8, 0xB3#8]
  | .lddr => [0xED#8, 0xB8#8]
  | .cpdr => [0xED#8, 0xB9#8]
  | .indr => [0xED#8, 0xBA#8]
  | .otdr => [0xED#8, 0xBB#8]
  | .addIxPp pp => [0xDD#8, (0b00#2 ++ pp.code ++ 0b1001#4)]
  | .ldIxNn nn => [0xDD#8, 0x21#8, loByte nn, hiByte nn]
  | .ldAtNnIx nn => [0xDD#8, 0x22#8, loByte nn, hiByte nn]
  | .incIx => [0xDD#8, 0x23#8]
  | .incIxh => [0xDD#8, 0x24#8]
  | .decIxh => [0xDD#8, 0x25#8]
  | .ldIxhN n => [0xDD#8, 0x26#8, n]
  | .ldIxAtNn nn => [0xDD#8, 0x2A#8, loByte nn, hiByte nn]
  | .decIx => [0xDD#8, 0x2B#8]
  | .incIxl => [0xDD#8, 0x2C#8]
  | .decIxl => [0xDD#8, 0x2D#8]
  | .ldIxlN n => [0xDD#8, 0x2E#8, n]
  | .incAtIx d => [0xDD#8, 0x34#8, d]
  | .decAtIx d => [0xDD#8, 0x35#8, d]
  | .ldAtIxN d n => [0xDD#8, 0x36#8, d, n]
  | .ldRRIx r src => [0xDD#8, (0b01#2 ++ r.code ++ src.code)]
  | .ldRAtIx r d => [0xDD#8, (0b01#2 ++ r.code ++ 0b110#3), d]
  | .ldAtIxR src d => [0xDD#8, (0b01110#5 ++ src.code), d]
  | .addAIxh => [0xDD#8, 0x84#8]
  | .addAIxl => [0xDD#8, 0x85#8]
  | .addAAtIx d => [0xDD#8, 0x86#8, d]
  | .adcAIxh => [0xDD#8, 0x8C#8]
  | .adcAIxl => [0xDD#8, 0x8D#8]
  | .adcAAtIx d => [0xDD#8, 0x8E#8, d]
  | .subIxh => [0xDD#8, 0x94#8]
  | .subIxl => [0xDD#8, 0x95#8]
  | .subAtIx d => [0xDD#8, 0x96#8, d]
  | .sbcAIxh => [0xDD#8, 0x9C#8]
  | .sbcAIxl => [0xDD#8, 0x9D#8]
  | .sbcAAtIx d => [0xDD#8, 0x9E#8, d]
  | .andIxh => [0xDD#8, 0xA4#8]
  | .andIxl => [0xDD#8, 0xA5#8]
  | .andAtIx d => [0xDD#8, 0xA6#8, d]
  | .xorIxh => [0xDD#8, 0xAC#8]
  | .xorIxl => [0xDD#8, 0xAD#8]
  | .xorAtIx d => [0xDD#8, 0xAE#8, d]
  | .orIxh => [0xDD#8, 0xB4#8]
  | .orIxl => [0xDD#8, 0xB5#8]
  | .orAtIx d => [0xDD#8, 0xB6#8, d]
  | .cpIxh => [0xDD#8, 0xBC#8]
  | .cpIxl => [0xDD#8, 0xBD#8]
  | .cpAtIx d => [0xDD#8, 0xBE#8, d]
  | .prefixDdcb => [0xDD#8, 0xCB#8]
  | .popIx => [0xDD#8, 0xE1#8]
  | .exAtSpIx => [0xDD#8, 0xE3#8]
  | .pushIx => [0xDD#8, 0xE5#8]
  | .jpIx => [0xDD#8, 0xE9#8]
  | .prefixEdIdx => [0xDD#8, 0xED#8]
  | .ldSpIx => [0xDD#8, 0xF9#8]
  | .addIyRr rr => [0xFD#8, (0b00#2 ++ rr.code ++ 0b1001#4)]
  | .ldIyNn nn => [0xFD#8, 0x21#8, loByte nn, hiByte nn]
  | .ldAtNnIy nn => [0xFD#8, 0x22#8, loByte nn, hiByte nn]
  | .incIy => [0xFD#8, 0x23#8]
  | .incIyh => [0xFD#8, 0x24#8]
  | .decIyh => [0xFD#8, 0x25#8]
  | .ldIyhN n => [0xFD#8, 0x26#8, n]
  | .ldIyAtNn nn => [0xFD#8, 0x2A#8, loByte nn, hiByte nn]
  | .decIy => [0xFD#8, 0x2B#8]
  | .incIyl => [0xFD#8, 0x2C#8]
  | .decIyl => [0xFD#8, 0x2D#8]
  | .ldIylN n => [0xFD#8, 0x2E#8, n]
  | .incAtIy d => [0xFD#8, 0x34#8, d]
  | .decAtIy d => [0xFD#8, 0x35#8, d]
  | .ldAtIyN d n => [0xFD#8, 0x36#8, d, n]
  | .ldRRIy r src => [0xFD#8, (0b01#2 ++ r.code ++ src.code)]
  | .ldRAtIy r d => [0xFD#8, (0b01#2 ++ r.code ++ 0b110#3), d]
  | .ldAtIyR src d => [0xFD#8, (0b01110#5 ++ src.code), d]
  | .addAIyh => [0xFD#8, 0x84#8]
  | .addAIyl => [0xFD#8, 0x85#8]
  | .addAAtIy d => [0xFD#8, 0x86#8, d]
  | .adcAIyh => [0xFD#8, 0x8C#8]
  | .adcAIyl => [0xFD#8, 0x8D#8]
  | .adcAAtIy d => [0xFD#8, 0x8E#8, d]
  | .subIyh => [0xFD#8, 0x94#8]
  | .subIyl => [0xFD#8, 0x95#8]
  | .subAtIy d => [0xFD#8, 0x96#8, d]
  | .sbcAIyh => [0xFD#8, 0x9C#8]
  | .sbcAIyl => [0xFD#8, 0x9D#8]
  | .sbcAAtIy d => [0xFD#8, 0x9E#8, d]
  | .andIyh => [0xFD#8, 0xA4#8]
  | .andIyl => [0xFD#8, 0xA5#8]
  | .andAtIy d => [0xFD#8, 0xA6#8, d]
  | .xorIyh => [0xFD#8, 0xAC#8]
  | .xorIyl => [0xFD#8, 0xAD#8]
  | .xorAtIy d => [0xFD#8, 0xAE#8, d]
  | .orIyh => [0xFD#8, 0xB4#8]
  | .orIyl => [0xFD#8, 0xB5#8]
  | .orAtIy d => [0xFD#8, 0xB6#8, d]
  | .cpIyh => [0xFD#8, 0xBC#8]
  | .cpIyl => [0xFD#8, 0xBD#8]
  | .cpAtIy d => [0xFD#8, 0xBE#8, d]
  | .prefixFdcb => [0xFD#8, 0xCB#8]
  | .popIy => [0xFD#8, 0xE1#8]
  | .exAtSpIy => [0xFD#8, 0xE3#8]
  | .pushIy => [0xFD#8, 0xE5#8]
  | .jpIy => [0xFD#8, 0xE9#8]
  | .ldSpIy => [0xFD#8, 0xF9#8]
  | .rlcAtIxR d r => [0xDD#8, 0xCB#8, d, (0b00000#5 ++ r.code)]
  | .rlcAtIx d => [0xDD#8, 0xCB#8, d, 0x06#8]
  | .rrcAtIxR d r => [0xDD#8, 0xCB#8, d, (0b00001#5 ++ r.code)]
  | .rrcAtIx d => [0xDD#8, 0xCB#8, d, 0x0E#8]
  | .rlAtIxR d r => [0xDD#8, 0xCB#8, d, (0b00010#5 ++ r.code)]
  | .rlAtIx d => [0xDD#8, 0xCB#8, d, 0x16#8]
  | .rrAtIxR d r => [0xDD#8, 0xCB#8, d, (0b00011#5 ++ r.code)]
  | .rrAtIx d => [0xDD#8, 0xCB#8, d, 0x1E#8]
  | .slaAtIxR d r => [0xDD#8, 0xCB#8, d, (0b00100#5 ++ r.code)]
  | .slaAtIx d => [0xDD#8, 0xCB#8, d, 0x26#8]
  | .sraAtIxR d r => [0xDD#8, 0xCB#8, d, (0b00101#5 ++ r.code)]
  | .sraAtIx d => [0xDD#8, 0xCB#8, d, 0x2E#8]
  | .sllAtIx d z => [0xDD#8, 0xCB#8, d, (0b00110#5 ++ z)]
  | .srlAtIxR d r => [0xDD#8, 0xCB#8, d, (0b00111#5 ++ r.code)]
  | .srlAtIx d => [0xDD#8, 0xCB#8, d, 0x3E#8]
  | .bitAtIxMirror d b r => [0xDD#8, 0xCB#8, d, (0b01#2 ++ b ++ r.code)]
  | .bitAtIx d b => [0xDD#8, 0xCB#8, d, (0b01#2 ++ b ++ 0b110#3)]
  | .resAtIxR d b r => [0xDD#8, 0xCB#8, d, (0b10#2 ++ b ++ r.code)]
  | .resAtIx d b => [0xDD#8, 0xCB#8, d, (0b10#2 ++ b ++ 0b110#3)]
  | .setAtIxR d b r => [0xDD#8, 0xCB#8, d, (0b11#2 ++ b ++ r.code)]
  | .setAtIx d b => [0xDD#8, 0xCB#8, d, (0b11#2 ++ b ++ 0b110#3)]
  | .rlcAtIyR d r => [0xFD#8, 0xCB#8, d, (0b00000#5 ++ r.code)]
  | .rlcAtIy d => [0xFD#8, 0xCB#8, d, 0x06#8]
  | .rrcAtIyR d r => [0xFD#8, 0xCB#8, d, (0b00001#5 ++ r.code)]
  | .rrcAtIy d => [0xFD#8, 0xCB#8, d, 0x0E#8]
  | .rlAtIyR d r => [0xFD#8, 0xCB#8, d, (0b00010#5 ++ r.code)]
  | .rlAtIy d => [0xFD#8, 0xCB#8, d, 0x16#8]
  | .rrAtIyR d r => [0xFD#8, 0xCB#8, d, (0b00011#5 ++ r.code)]
  | .rrAtIy d => [0xFD#8, 0xCB#8, d, 0x1E#8]
  | .slaAtIyR d r => [0xFD#8, 0xCB#8, d, (0b00100#5 ++ r.code)]
  | .slaAtIy d => [0xFD#8, 0xCB#8, d, 0x26#8]
  | .sraAtIyR d r => [0xFD#8, 0xCB#8, d, (0b00101#5 ++ r.code)]
  | .sraAtIy d => [0xFD#8, 0xCB#8, d, 0x2E#8]
  | .sllAtIy d z => [0xFD#8, 0xCB#8, d, (0b00110#5 ++ z)]
  | .srlAtIyR d r => [0xFD#8, 0xCB#8, d, (0b00111#5 ++ r.code)]
  | .srlAtIy d => [0xFD#8, 0xCB#8, d, 0x3E#8]
  | .bitAtIyMirror d b r => [0xFD#8, 0xCB#8, d, (0b01#2 ++ b ++ r.code)]
  | .bitAtIy d b => [0xFD#8, 0xCB#8, d, (0b01#2 ++ b ++ 0b110#3)]
  | .resAtIyR d b r => [0xFD#8, 0xCB#8, d, (0b10#2 ++ b ++ r.code)]
  | .resAtIy d b => [0xFD#8, 0xCB#8, d, (0b10#2 ++ b ++ 0b110#3)]
  | .setAtIyR d b r => [0xFD#8, 0xCB#8, d, (0b11#2 ++ b ++ r.code)]
  | .setAtIy d b => [0xFD#8, 0xCB#8, d, (0b11#2 ++ b ++ 0b110#3)]
  | .fdcRestore _ flags => [(0b0000#4 ++ flags)]
  | .fdcSeek _ flags => [(0b0001#4 ++ flags)]
  | .fdcStep _ flags => [(0b0010#4 ++ flags)]
  | .fdcStepUpdate _ flags => [(0b0011#4 ++ flags)]
  | .fdcStepIn _ flags => [(0b0100#4 ++ flags)]
  | .fdcStepInUpdate _ flags => [(0b0101#4 ++ flags)]
  | .fdcStepOut _ flags => [(0b0110#4 ++ flags)]
  | .fdcStepOutUpdate _ flags => [(0b0111#4 ++ flags)]
  | .fdcReadSector _ flags => [(0b1000#4 ++ flags)]
  | .fdcReadSectors _ flags => [(0b1001#4 ++ flags)]
  | .fdcWriteSector _ flags => [(0b1010#4 ++ flags)]
  | .fdcWriteSectors _ flags => [(0b1011#4 ++ flags)]
  | .fdcReadAddress _ flags => [(0b1100#4 ++ flags)]
  | .fdcForceInterrupt _ flags => [(0b1101#4 ++ flags)]
  | .fdcReadTrack _ flags => [(0b1110#4 ++ flags)]
  | .fdcWriteTrack _ flags => [(0b1111#4 ++ flags)]

end Sys2Proof
end

