-- ==== Sys2Proof/Config.lean ====
section
/-! DEFINITION. What is fixed for the machine: the parameters of 00_scope.md R10 at the defaults that rule gives, the plain-data
types of what the environment supplies (the excluded devices, the host at a frame boundary, the disk), and the FREE VALUES: opaque
constants, applied to the draw counter of State, of which nothing can be proved. -/

namespace Sys2Proof

/-! ### Types of the environment -/

/-- The twelve event kinds of 61_event_queue.md R1002. -/
inductive EventKind where
  | frameIntStart | frameIntEnd | lineIntStart | lineIntEnd | midiOutStart | midiOutEnd | midiTxfmstEnd
  | mouseReset | extClockTick | tapeEdge | asicReady | inputUpdate
  deriving DecidableEq, Repr, Inhabited

/-- The four bytes of a sector's ID field (62_fdc.md R1105). -/
structure IdField where
  track : Byte
  side : Byte
  sector : Byte
  size : Byte
  deriving DecidableEq, Repr, Inhabited

/-- One sector of the reference disk (62_fdc.md R1106). -/
structure Sector where
  id : IdField
  idCrcErr : Bool
  data : List Byte
  dataCrcErr : Bool
  deleted : Bool
  hasData : Bool
  deriving DecidableEq, Repr, Inhabited

/-- A physical track of a disk: its side (true is side 1) and its head position. -/
structure TrackKey where
  side : Bool
  head : Nat
  deriving DecidableEq, Repr, Inhabited

/-- One formatted track: its place and its sectors in spin order (62_fdc.md R1106 `tracks`). -/
structure TrackEntry where
  key : TrackKey
  sectors : List Sector
  deriving DecidableEq, Repr, Inhabited

/-- The reference disk of 62_fdc.md R1106, with its sector iterator; `curKey` is the track `cur` was taken from. -/
structure DiskImage where
  readOnly : Bool
  physical : Bool
  tracks : List TrackEntry
  cur : List Sector
  curKey : Option TrackKey
  pos : Nat
  last : Option Nat
  deriving DecidableEq, Repr, Inhabited

/-- A disk taken as a free oracle (62_fdc.md R1105): only what the laws of that rule's table speak of is kept (whether a scan is
open, how many IDs it has returned, the ID returned last); every answer is a draw. -/
structure DiskDevice where
  physical : Bool
  scanning : Bool
  seen : Nat
  last : Option IdField
  deriving DecidableEq, Repr, Inhabited

/-- An inserted disk: "either the reference disk of rule R1106 (deterministic), or a free oracle" (93 U10). -/
inductive Disk where
  | image (d : DiskImage)
  | device (d : DiskDevice)
  deriving DecidableEq, Repr, Inhabited

/-- A region of addresses whose page the excluded paging hardware has set (20_memory.md R226 `PageOf`). -/
structure PageRegion where
  base : Nat
  size : Nat
  page : Nat
  deriving DecidableEq, Repr, Inhabited

/-- A region of addresses (20_memory.md R226 `Writable`: the regions where writes change nothing). -/
structure AddrRange where
  base : Nat
  size : Nat
  deriving DecidableEq, Repr, Inhabited

/-- One thing the external dispatcher may do during a port access or an external event (20_memory.md R236, 61_event_queue.md
R1035). `GetEventTime` and the other reads it may make change nothing and have no constructor. -/
inductive ExtAction where
  /-- `AddEvent(kind, due)`. -/
  | addEvent (kind : EventKind) (due : Nat)
  /-- `CancelEvent(kind)`. -/
  | cancelEvent (kind : EventKind)
  /-- Set or clear the `MOUSE` bit of `int_status`. -/
  | setMouse (level : Bool)
  /-- Set or clear the `MIDIIN` bit of `int_status`. -/
  | setMidiIn (level : Bool)
  /-- Change `PageOf`. -/
  | setPages (regions : List PageRegion)
  /-- Change `Writable`. -/
  | setReadOnly (ranges : List AddrRange)
  /-- Change what one address of `mem` shows. -/
  | mapByte (addr : Word) (value : Byte)
  deriving DecidableEq, Repr, Inhabited

/-- One thing the host may do at a frame boundary (60_exceptions.md R944). -/
inductive HostAction where
  /-- What the external dispatcher may do too. -/
  | ext (action : ExtAction)
  /-- Set or clear `nmi_pending`. -/
  | setNmi (level : Bool)
  /-- Set or clear `reset_pending`. -/
  | setReset (level : Bool)
  /-- Set or clear `paused`. -/
  | setPaused (level : Bool)
  /-- Insert a disk. -/
  | insertDisk (disk : Disk)
  /-- Eject the disk. -/
  | ejectDisk
  deriving DecidableEq, Repr, Inhabited

/-- The raw material of one answer of a free disk; each call of Machine/Disk.lean takes from it what the laws of 62_fdc.md R1105
leave free. -/
structure DiskAnswer where
  yes : Bool
  id : IdField
  status : Byte
  bytes : List Byte
  deriving DecidableEq, Repr, Inhabited

/-- `XY_POLICY` of R10: how flag bits 5 and 3 are written. -/
inductive XyPolicy where
  | copy | any
  deriving DecidableEq, Repr

/-- `CB_SLL_POLICY` of R10: what CB 30..37 do. -/
inductive SllPolicy where
  | nop2 | sll
  deriving DecidableEq, Repr

/-- `INDEX_MODE` of R10. -/
inductive IndexPulseMode where
  | pulse | toggle
  deriving DecidableEq, Repr

namespace Config

/-! ### Parameters of 00_scope.md R10, at that rule's defaults -/

/-- `MEM_COST`. -/
def memCost : Nat := 4
/-- `PORT_COST`. -/
def portCost : Nat := 4
/-- `CONTEND_ALIGN`. -/
def contendAlign : Nat := 8
/-- `ASIC_ALIGN`. -/
def asicAlign : Nat := 8
/-- `ASIC_PORT_BASE`. -/
def asicPortBase : Byte := 0xF8#8
/-- `CYCLES_PER_LINE`. -/
def cyclesPerLine : Nat := 384
/-- `LINES_PER_FRAME`. -/
def linesPerFrame : Nat := 312
/-- `CYCLES_PER_FRAME`. -/
def cyclesPerFrame : Nat := 119808
/-- `VIS_FIRST_LINE`. -/
def visFirstLine : Nat := 68
/-- `VIS_LAST_LINE`. -/
def visLastLine : Nat := 259
/-- `VIS_START_CYCLE`. -/
def visStartCycle : Nat := 64
/-- `VIS_END_CYCLE`. -/
def visEndCycle : Nat := 320
/-- `VIDEO_DELAY`. -/
def videoDelay : Nat := 0
/-- `BORDER_SUPPRESS`. -/
def borderSuppress : Bool := false
/-- `N_MAIN_PAGES`. -/
def nMainPages : Nat := 32
/-- The default of `PageOf`: four fixed 16 KiB pages. -/
def defaultPage (addr : Nat) : Nat := addr >>> 14
/-- `EVENT_CAPACITY`. -/
def eventCapacity : Nat := 16
/-- `INT_ACTIVE_CYCLES`. -/
def intActiveCycles : Nat := 128
/-- `INT_VECTOR`. -/
def intVector : Word := 0x0038#16
/-- `NMI_VECTOR`. -/
def nmiVector : Word := 0x0066#16
/-- `IM2_BUS_BYTE`. -/
def im2BusByte : Byte := 0xFF#8
/-- `RESET_PC`. -/
def resetPc : Word := 0x0000#16
/-- `IXY_SENTINEL`. -/
def ixySentinel : Word := 0xFFFF#16
/-- `FDC_PORT_MASK`. -/
def fdcPortMask : Byte := 0xF8#8
/-- `FDC_PORT_BASE`. -/
def fdcPortBase : Byte := 0xE0#8
/-- `MOTOR_ACTIVE_FRAMES`. -/
def motorActiveFrames : Nat := 100
/-- `INDEX_PERIOD`. -/
def indexPeriod : Nat := 1024
/-- `INDEX_MODE`. -/
def indexMode : IndexPulseMode := .pulse
/-- `CRC_POLY`. -/
def crcPoly : Word := 0x1021#16
/-- `CRC_INIT`. -/
def crcInit : Word := 0xFFFF#16
/-- `TRACK_LEN`. -/
def trackLen : Nat := 6250
/-- `GAP4A`. -/
def gap4a : Nat := 80
/-- `GAP1`. -/
def gap1 : Nat := 50
/-- `SYNC`. -/
def sync : Nat := 12
/-- `GAP2`. -/
def gap2 : Nat := 22
/-- `GAP3`. -/
def gap3 : Nat := 24
/-- `HEAD_MAX`. -/
def headMax : Nat := 255
/-- `ASIC_STARTUP_CYCLES`. -/
def asicStartupCycles : Nat := 49152
/-- `INPUT_UPDATE_OFFSET`. -/
def inputUpdateOffset : Nat := 59904
/-- `FRAME_INT_OFFSET`. -/
def frameIntOffset : Nat := 0
/-- `SECTOR_SIZE(code)`. -/
def sectorSize (code : Byte) : Nat := 128 <<< (code &&& 3#8).toNat
/-- `XY_POLICY`. -/
def xyPolicy : XyPolicy := .copy
/-- `CB_SLL_POLICY`. -/
def sllPolicy : SllPolicy := .nop2
/-- `Extra` of R10 and 20_memory.md R206: `max(0, T - 4 * N)` from the `T` and `N` an instruction's rule tabulates. -/
def extra (t n : Nat) : Nat := t - 4 * n

/-! ### Free values: no body, so nothing can be proved of any one of them

Each takes the draw counter of State, so that every occurrence is fresh; the other arguments are what the environment sees. -/

/-- An unspecified byte: the open flag bits of 93 U3 and U4 (and U8), the unspecified registers of a later reset (U1). -/
opaque freeByte : Nat → Byte
/-- The byte an external port read returns (20_memory.md R236, 93 U7). -/
opaque extPortByte : Nat → Word → Byte
/-- What the external dispatcher does during a port read (R236). -/
opaque extReadActions : Nat → Word → List ExtAction
/-- What the external dispatcher does during a port write (R236). -/
opaque extWriteActions : Nat → Word → Byte → List ExtAction
/-- What the peripheral that owns an event kind does when its event fires (61_event_queue.md R1035). -/
opaque extEventActions : Nat → EventKind → Nat → List ExtAction
/-- How many already due entries the external events of one event check may add: R1035's law that they may not do so "without
bound", as a bound that is itself free. -/
opaque extEventBudget : Nat → Nat
/-- What the host does at a frame boundary (60_exceptions.md R944, 93 U19). -/
opaque hostActions : Nat → List HostAction
/-- The raw answer of a free disk to one call (62_fdc.md R1105, 93 U10). -/
opaque diskAnswer : Nat → DiskAnswer

end Config

end Sys2Proof
end

