-- ==== Sys2Proof/Machine/State.lean ====
section
/-! DEFINITION. The state of the machine: every piece of state 10_state.md names, grouped by owner as that file groups it, and the
state right after power-on. All of it is plain data. -/

namespace Sys2Proof.Machine

/-! ### The two ways a step can stop -/

/-- Why the machine has stopped (60_exceptions.md R960). -/
inductive Fault where
  /-- An event was added with `EVENT_CAPACITY` events active. Raised by `addEvent` (61_event_queue.md R1004), whoever calls it: a
  handler, the external dispatcher, the host. Safe: the spec asks for this fatal stop. -/
  | queueExhausted
  deriving DecidableEq, Repr, Inhabited

/-- Why an instruction has no meaning here. No arm of `exec` answers with this: every instruction has its meaning. -/
inductive Refusal where
  /-- The instruction of this mnemonic has not been modelled. Raised by an arm of `exec` that has no meaning yet. Safe: nothing is
  claimed of it. -/
  | notModelled (mnemonic : String)
  deriving DecidableEq, Repr, Inhabited

/-! ### The CPU -/

/-- The register file (10_state.md R100 to R105, R115, R116); a primed name is the shadow register (R102). -/
structure Regs where
  a : Byte
  f : Byte
  b : Byte
  c : Byte
  d : Byte
  e : Byte
  h : Byte
  l : Byte
  a' : Byte
  f' : Byte
  b' : Byte
  c' : Byte
  d' : Byte
  e' : Byte
  h' : Byte
  l' : Byte
  ix : Word
  iy : Word
  sp : Word
  pc : Word
  i : Byte
  r : Byte
  deriving DecidableEq, Repr, Inhabited

/-- The interrupt modes (10_state.md R118). -/
inductive IntMode where
  | im0 | im1 | im2
  deriving DecidableEq, Repr, Inhabited

/-- The control state of the CPU (10_state.md R117 to R122). `table` is the model's own: the table the next opcode byte of the same
step is looked up in, `main` at every step boundary (log entry 10). -/
structure Control where
  iff1 : Bool
  iff2 : Bool
  im : IntMode
  halted : Bool
  idx : IndexMode
  idxNext : IndexMode
  afterEiDi : Bool
  table : OpTable
  deriving DecidableEq, Repr, Inhabited

/-! ### Time, signals, events -/

/-- The timing state (10_state.md R124 to R128). -/
structure Clock where
  lineCycle : Nat
  lineCycleMark : Nat
  cycleCounter : Nat
  line : Nat
  maybeContended : Bool
  frameEnd : Bool
  deriving DecidableEq, Repr, Inhabited

/-- The signals of the host and of the interrupt sources (10_state.md R123, R130, R131). -/
structure Signals where
  nmiPending : Bool
  resetPending : Bool
  paused : Bool
  intStatus : Byte
  asicAsleep : Bool
  deriving DecidableEq, Repr, Inhabited

/-- An active entry of the event queue (61_event_queue.md R1001). -/
structure Event where
  kind : EventKind
  due : Nat
  deriving DecidableEq, Repr, Inhabited

/-! ### The floppy disk controller -/

/-- The six bytes of the last ID field found (10_state.md R151 `fdc.id`). -/
structure FoundId where
  id : IdField
  crcHi : Byte
  crcLo : Byte
  deriving DecidableEq, Repr, Inhabited

/-- The floppy disk controller and its drive (10_state.md R150, R151). -/
structure Fdc where
  status : Byte
  cmd : Byte
  flags : BitVec 4
  track : Byte
  sector : Byte
  data : Byte
  side : Bool
  head : Nat
  state : Nat
  buf : List Byte
  bufPos : Nat
  bufLen : Nat
  dataStatus : Byte
  id : FoundId
  dirIn : Bool
  motorFrames : Nat
  idxCount : Nat
  disk : Option Disk
  deriving DecidableEq, Repr, Inhabited

/-! ### Memory -/

/-- The memory cells (10_state.md R160): pairs of an address and the byte it holds, addresses strictly rising and below 2^16, no
entry equal to what an unlisted address reads as (`unlistedByte` of Machine/Ops.lean). -/
abbrev Memory := List Host.Cell

/-- What the excluded paging hardware has set (20_memory.md R226): the regions where `PageOf` differs from its default and those where
`Writable` is false. -/
structure Paging where
  pageRegions : List PageRegion
  readOnly : List AddrRange
  deriving DecidableEq, Repr, Inhabited

/-! ### The whole state -/

/-- The state of the machine. `draws` is the model's own: how many free values have been drawn (log entry 4). -/
structure State where
  regs : Regs
  ctl : Control
  clock : Clock
  sig : Signals
  events : List Event
  fdc : Fdc
  mem : Memory
  paging : Paging
  fault : Option Fault
  draws : Nat
  deriving DecidableEq, Repr, Inhabited

/-- The register file after power-on (10_state.md R191). The registers that rule calls unspecified hold 0 here: DESIGN CHOICE,
unsafe, log entry 2. -/
def Regs.reset : Regs :=
  { a := 0, f := 0x40, b := 0, c := 0, d := 0, e := 0, h := 0, l := 0,
    a' := 0, f' := 0, b' := 0, c' := 0, d' := 0, e' := 0, h' := 0, l' := 0,
    ix := Config.ixySentinel, iy := Config.ixySentinel, sp := 0, pc := Config.resetPc, i := 0, r := 0 }

/-- The control state after reset (10_state.md R191). -/
def Control.reset : Control :=
  { iff1 := false, iff2 := false, im := .im0, halted := false, idx := .hl, idxNext := .hl, afterEiDi := false, table := .main }

/-- The controller after reset with no disk (10_state.md R191, 62_fdc.md R1181). The buffer and the ID bytes, which that rule calls
unspecified and never read before written, are empty and zero here: DESIGN CHOICE, log entry 3. -/
def Fdc.reset : Fdc :=
  { status := 0, cmd := 0, flags := 0, track := 0, sector := 0, data := 0, side := false, head := 0, state := 0,
    buf := [], bufPos := 0, bufLen := 0, dataStatus := 0, id := ⟨⟨0, 0, 0, 0⟩, 0, 0⟩, dirIn := true,
    motorFrames := 0, idxCount := 0, disk := none }

/-- The machine right after reset: `PowerOn()` of 70_reset_and_hazards.md R1201, with the queue of 61_event_queue.md R1040 and memory with
nothing listed. R1201 leaves it to the host whether a disk is inserted before the first frame; here none is, and the host has its first turn
at the first frame boundary: DESIGN CHOICE, unsafe, log entry 23. -/
def State.reset : State :=
  { regs := Regs.reset
    ctl := Control.reset
    clock := { lineCycle := 0, lineCycleMark := 0, cycleCounter := 0, line := 0, maybeContended := false, frameEnd := false }
    sig := { nmiPending := false, resetPending := false, paused := false, intStatus := 0xFF, asicAsleep := true }
    events := [⟨.frameIntStart, Config.frameIntOffset⟩, ⟨.asicReady, Config.asicStartupCycles⟩,
      ⟨.inputUpdate, Config.inputUpdateOffset⟩]
    fdc := Fdc.reset
    mem := []
    paging := ⟨[], []⟩
    fault := none
    draws := 0 }

end Sys2Proof.Machine
end

