-- ==== Sys2Proof/Machine/Ops.lean ====
section
/-! DEFINITION. The named operations every meaning is built from: updates of one group of the state, registers, memory, the timed access
layer, the stack, free values, and taking and returning from an interrupt. -/

namespace Sys2Proof.Machine

/-- What a step or a meaning answers. -/
abbrev Result := Host.Outcome State Fault Refusal

/-! ### Updates of one group of the state -/

/-- Change the register file. -/
def State.mapRegs (g : Regs → Regs) (s : State) : State := { s with regs := g s.regs }
/-- Change the control state. -/
def State.mapCtl (g : Control → Control) (s : State) : State := { s with ctl := g s.ctl }
/-- Change the timing state. -/
def State.mapClock (g : Clock → Clock) (s : State) : State := { s with clock := g s.clock }
/-- Change the signals. -/
def State.mapSig (g : Signals → Signals) (s : State) : State := { s with sig := g s.sig }
/-- Change the event queue. -/
def State.setEvents (q : List Event) (s : State) : State := { s with events := q }
/-- Change the floppy disk controller. -/
def State.mapFdc (g : Fdc → Fdc) (s : State) : State := { s with fdc := g s.fdc }
/-- Change the memory cells. -/
def State.setMem (m : Memory) (s : State) : State := { s with mem := m }
/-- Change what the paging hardware has set. -/
def State.mapPaging (g : Paging → Paging) (s : State) : State := { s with paging := g s.paging }
/-- Enter the fault state (60_exceptions.md R961). -/
def State.raise (f : Fault) (s : State) : State := { s with fault := some f }
/-- Count one more free value drawn (log entry 4). -/
def State.nextDraw (s : State) : State := { s with draws := s.draws + 1 }

/-- Do the rest of an operation unless the machine has entered the fault state: "the current step ends at once" (R961). -/
def unlessFault (s : State) (rest : State → State) : State :=
  match s.fault with
  | none => rest s
  | some _ => s

/-! ### Registers (10_state.md R100 to R105, 30_encoding.md R306 to R308) -/

/-- Read an 8-bit register. -/
def getR (r : Reg8) (s : State) : Byte :=
  match r with
  | .b => s.regs.b
  | .c => s.regs.c
  | .d => s.regs.d
  | .e => s.regs.e
  | .h => s.regs.h
  | .l => s.regs.l
  | .a => s.regs.a

/-- Write an 8-bit register. -/
def setR (r : Reg8) (v : Byte) (s : State) : State :=
  s.mapRegs fun g =>
    match r with
    | .b => { g with b := v }
    | .c => { g with c := v }
    | .d => { g with d := v }
    | .e => { g with e := v }
    | .h => { g with h := v }
    | .l => { g with l := v }
    | .a => { g with a := v }

/-- Write F as it is. -/
def setF (v : Byte) (s : State) : State := s.mapRegs fun g => { g with f := v }
/-- Write I. -/
def setI (v : Byte) (s : State) : State := s.mapRegs fun g => { g with i := v }
/-- Write R, all eight bits. -/
def setRefresh (v : Byte) (s : State) : State := s.mapRegs fun g => { g with r := v }
/-- Write PC. -/
def setPc (v : Word) (s : State) : State := s.mapRegs fun g => { g with pc := v }
/-- Write SP. -/
def setSp (v : Word) (s : State) : State := s.mapRegs fun g => { g with sp := v }

/-- `AF = A : F` (R101). -/
def getAf (s : State) : Word := .ofBytes s.regs.a s.regs.f
/-- `BC = B : C` (R101). -/
def getBc (s : State) : Word := .ofBytes s.regs.b s.regs.c
/-- `DE = D : E` (R101). -/
def getDe (s : State) : Word := .ofBytes s.regs.d s.regs.e
/-- `HL = H : L` (R101). -/
def getHl (s : State) : Word := .ofBytes s.regs.h s.regs.l

/-- Write both halves of AF (R101), every bit of F as it is. -/
def setAf (v : Word) (s : State) : State := s.mapRegs fun g => { g with a := hiByte v, f := loByte v }
/-- Write both halves of BC (R101). -/
def setBc (v : Word) (s : State) : State := s.mapRegs fun g => { g with b := hiByte v, c := loByte v }
/-- Write both halves of DE (R101). -/
def setDe (v : Word) (s : State) : State := s.mapRegs fun g => { g with d := hiByte v, e := loByte v }
/-- Write both halves of HL (R101). -/
def setHl (v : Word) (s : State) : State := s.mapRegs fun g => { g with h := hiByte v, l := loByte v }
/-- Write IX. -/
def setIx (v : Word) (s : State) : State := s.mapRegs fun g => { g with ix := v }
/-- Write IY. -/
def setIy (v : Word) (s : State) : State := s.mapRegs fun g => { g with iy := v }

/-- Read a pair `RP` (R307). -/
def getRp (p : RP) (s : State) : Word :=
  match p with
  | .bc => getBc s
  | .de => getDe s
  | .hl => getHl s
  | .sp => s.regs.sp

/-- Write a pair `RP` (R307). -/
def setRp (p : RP) (v : Word) (s : State) : State :=
  match p with
  | .bc => setBc v s
  | .de => setDe v s
  | .hl => setHl v s
  | .sp => setSp v s

/-- Read a pair `RP2` (R308). -/
def getRp2 (p : RP2) (s : State) : Word :=
  match p with
  | .bc => getBc s
  | .de => getDe s
  | .hl => getHl s
  | .af => getAf s

/-- Write a pair `RP2` (R308). -/
def setRp2 (p : RP2) (v : Word) (s : State) : State :=
  match p with
  | .bc => setBc v s
  | .de => setDe v s
  | .hl => setHl v s
  | .af => setAf v s

/-- `R[6:0]` plus one modulo 128, `R[7]` kept (10_state.md R116). -/
def bumpRefresh (v : Byte) : Byte := (v &&& 0x80#8) ||| ((v + 1#8) &&& 0x7F#8)

/-- One increment of R (R116). -/
def countRefresh (s : State) : State := setRefresh (bumpRefresh s.regs.r) s

/-! ### Free values -/

/-- The free byte of the next draw. -/
def drawnByte (s : State) : Byte := Config.freeByte s.draws

/-- Write F with a rule's value: bits 5 and 3 as `XY_POLICY` says (10_state.md R113). -/
def writeF (v : Byte) (s : State) : State :=
  match Config.xyPolicy with
  | .copy => setF v s
  | .any => setF ((v &&& 0xD7#8) ||| (drawnByte s &&& 0x28#8)) s.nextDraw

/-- Write F where the rule leaves the bits of `open_` unspecified: those bits are a free value under both policies (10_state.md R113, 93
U3, U4; log entry 5). -/
def writeFOpen (open_ : Byte) (v : Byte) (s : State) : State :=
  setF ((v &&& ~~~open_) ||| (drawnByte s &&& open_)) s.nextDraw

/-! ### Memory cells -/

/-- What a cell that nothing has written reads as: DESIGN CHOICE, unsafe, log entry 1. -/
def unlistedByte : Byte := 0x00#8

/-- The byte at an address. -/
def Memory.read : Memory → Nat → Byte
  | [], _ => unlistedByte
  | (k, w) :: rest, a => if k = a then w else Memory.read rest a

/-- Put a byte at an address, keeping the canonical form. -/
def Memory.write : Memory → Nat → Byte → Memory
  | [], a, v => if v = unlistedByte then [] else [(a, v)]
  | (k, w) :: rest, a, v =>
    if k = a then if v = unlistedByte then rest else (a, v) :: rest
    else if a < k then if v = unlistedByte then (k, w) :: rest else (a, v) :: (k, w) :: rest
    else (k, w) :: Memory.write rest a v

/-- The canonical form: addresses strictly rising from `lo` on and below 2^16, no entry equal to what an unlisted address reads as. -/
def Memory.wfFrom : Nat → Memory → Bool
  | _, [] => true
  | lo, (k, w) :: rest => decide (lo ≤ k) && decide (k < 65536) && decide (w ≠ unlistedByte) && Memory.wfFrom (k + 1) rest

/-- The canonical form of the memory. -/
def Memory.wf (m : Memory) : Bool := Memory.wfFrom 0 m

/-- The byte a memory address holds. -/
def State.byteAt (s : State) (addr : Word) : Byte := Memory.read s.mem addr.toNat

/-- Put a byte at a memory address, whatever `Writable` says. -/
def State.pokeByte (addr : Word) (v : Byte) (s : State) : State := s.setMem (Memory.write s.mem addr.toNat v)

/-! ### The timed access layer (20_memory.md) -/

/-- The least multiple of `n` that is at least `x` (00_scope.md R12). -/
def roundUp (x n : Nat) : Nat := (x + (n - 1)) / n * n

/-- `PageOf(addr)` (R226): the page of the first region that holds the address, else the default. -/
def pageOf (addr : Word) (s : State) : Nat :=
  match s.paging.pageRegions.find? fun g => g.base ≤ addr.toNat && addr.toNat < g.base + g.size with
  | some g => g.page
  | none => Config.defaultPage addr.toNat

/-- `Writable(addr)` (R226): no region takes it away. -/
def writable (addr : Word) (s : State) : Bool :=
  !s.paging.readOnly.any fun g => g.base ≤ addr.toNat && addr.toNat < g.base + g.size

/-- `Contended(addr, lc)` (R204). -/
def contended (addr : Word) (lc : Nat) (s : State) : Bool :=
  s.clock.maybeContended && decide (Config.visStartCycle ≤ lc + Config.videoDelay) &&
    decide (lc + Config.videoDelay < Config.visEndCycle) && decide (pageOf addr s < Config.nMainPages)

/-- `AddCycles(n)` (R205). -/
def addCycles (n : Nat) (s : State) : State := s.mapClock fun k => { k with lineCycle := k.lineCycle + n }

/-- The explicit delta of an instruction whose rule tabulates `T = t` and `N = n` (R206). -/
def spend (t n : Nat) (s : State) : State := addCycles (Config.extra t n) s

/-- The line-cycle counter after one byte access at `addr` (R203). -/
def chargedCycle (addr : Word) (s : State) : Nat :=
  let lc := s.clock.lineCycle + Config.memCost
  if contended addr lc s then roundUp lc Config.contendAlign else lc

/-- `MemCharge(addr)` (R203). -/
def memCharge (addr : Word) (s : State) : State := s.mapClock fun k => { k with lineCycle := chargedCycle addr s }

/-- `MemRead(addr, 1)` (R210). -/
def memReadByte (addr : Word) (s : State) : Byte × State :=
  let s := memCharge addr s
  (s.byteAt addr, s)

/-- `MemWrite(addr, 1, v)` (R211). -/
def memWriteByte (addr : Word) (v : Byte) (s : State) : State :=
  let s := memCharge addr s
  if writable addr s then s.pokeByte addr v else s

/-- `MemRead(addr, 2)` (R212). -/
def memReadWord (addr : Word) (s : State) : Word × State :=
  let lo := memReadByte addr s
  let hi := memReadByte (addr + 1#16) lo.2
  (.ofBytes hi.1 lo.1, hi.2)

/-- `MemWrite(addr, 2, v)` (R213). -/
def memWriteWord (addr : Word) (v : Word) (s : State) : State :=
  memWriteByte (addr + 1#16) (hiByte v) (memWriteByte addr (loByte v) s)

/-- `Fetch8()` (R215). -/
def fetch8 (s : State) : Byte × State :=
  let m := memReadByte s.regs.pc s
  (m.1, setPc (s.regs.pc + 1#16) m.2)

/-- `FetchOp()` (R214). -/
def fetchOp (s : State) : Byte × State :=
  let m := fetch8 s
  (m.1, countRefresh m.2)

/-- `Push16(v)` (R217). -/
def push16 (v : Word) (s : State) : State :=
  let s := setSp (s.regs.sp - 2#16) s
  memWriteWord s.regs.sp v s

/-- `Pop16()` (R218). -/
def pop16 (s : State) : Word × State :=
  let m := memReadWord s.regs.sp s
  (m.1, setSp (s.regs.sp + 2#16) m.2)

/-! ### Control state -/

/-- Set the two interrupt enable flip-flops (10_state.md R117). -/
def setIffs (iff1 iff2 : Bool) (s : State) : State := s.mapCtl fun k => { k with iff1 := iff1, iff2 := iff2 }
/-- Set the interrupt mode (R118). -/
def setIm (m : IntMode) (s : State) : State := s.mapCtl fun k => { k with im := m }
/-- Set `halted` (R120). -/
def setHalted (b : Bool) (s : State) : State := s.mapCtl fun k => { k with halted := b }
/-- Set `idx_next` (R121). -/
def setIdxNext (x : IndexMode) (s : State) : State := s.mapCtl fun k => { k with idxNext := x }
/-- Set `after_ei_di` (R122). -/
def setAfterEiDi (b : Bool) (s : State) : State := s.mapCtl fun k => { k with afterEiDi := b }
/-- Choose the table of the next opcode byte of this step (log entry 10). -/
def setTable (t : OpTable) (s : State) : State := s.mapCtl fun k => { k with table := t }

/-! ### Taking an interrupt and returning from one (60_exceptions.md) -/

/-- The two kinds of interrupt a running program is diverted by. -/
inductive IntSource where
  | maskable | nmi
  deriving DecidableEq, Repr

/-- An accepted interrupt ends a halt, PC passing the `HALT` (R906 (1), R920). -/
def leaveHalt (s : State) : State :=
  if s.ctl.halted then setHalted false (setPc (s.regs.pc + 1#16) s) else s

/-- What both kinds do first: leave the halt, count R, push PC (R906 (1) to (3), R920). -/
def saveReturn (s : State) : State :=
  let s := countRefresh (leaveHalt s)
  push16 s.regs.pc s

/-- The address of the mode 2 table entry, `I : IM2_BUS_BYTE` (R912). -/
def im2Entry (s : State) : Word := .ofBytes s.regs.i Config.im2BusByte

/-- Take an interrupt. Maskable: R906 with the handler address by mode (R910, R911, R912). NMI: R920, which keeps IFF2. -/
def takeInterrupt (src : IntSource) (s : State) : State :=
  let s := saveReturn s
  match src with
  | .nmi => spend 11 2 (setPc Config.nmiVector (setIffs false s.ctl.iff2 s))
  | .maskable =>
    let s := setIffs false false s
    match s.ctl.im with
    | .im2 =>
      let m := memReadWord (im2Entry s) s
      spend 19 4 (setPc m.1 m.2)
    | _ => spend 13 2 (setPc Config.intVector s)

/-- `PC <- Pop16(); IFF1 <- IFF2` (47_jump_call_return.md R739, R740). -/
def returnFromInterrupt (s : State) : State :=
  let m := pop16 s
  setIffs m.2.ctl.iff2 m.2.ctl.iff2 (setPc m.1 m.2)

end Sys2Proof.Machine
end

