-- ==== Sys2Proof/Machine/Flags.lean ====
section
/-! DEFINITION. Every flag computation of the spec: the layout of F (10_state.md R110), the arithmetic helpers of 43_alu8.md, 45_alu16.md and
46_rotate_shift_bit.md, and the flags of the other instructions, each a function of values alone. -/

namespace Sys2Proof.Machine

/-! ### The flag register (10_state.md R110) -/

/-- `mask` where the bit is 1, else 0. -/
def bit (b : Bool) (mask : Byte) : Byte := if b then mask else 0#8

/-- F from its eight bits, S first. -/
def packF (s z y h x pv n c : Bool) : Byte :=
  bit s 0x80#8 ||| bit z 0x40#8 ||| bit y 0x20#8 ||| bit h 0x10#8 ||| bit x 0x08#8 ||| bit pv 0x04#8 ||| bit n 0x02#8 ||| bit c 0x01#8

/-- `F.S` of a value of F. -/
def fS (f : Byte) : Bool := f.getLsbD 7
/-- `F.Z` of a value of F. -/
def fZ (f : Byte) : Bool := f.getLsbD 6
/-- `F.H` of a value of F. -/
def fH (f : Byte) : Bool := f.getLsbD 4
/-- `F.PV` of a value of F. -/
def fPV (f : Byte) : Bool := f.getLsbD 2
/-- `F.N` of a value of F. -/
def fN (f : Byte) : Bool := f.getLsbD 1
/-- `F.C` of a value of F. -/
def fC (f : Byte) : Bool := f.getLsbD 0

/-- `parity(v)` (00_scope.md R12): true when `v` has an even number of 1 bits. -/
def parity (v : Byte) : Bool :=
  !(v.getLsbD 0 ^^ v.getLsbD 1 ^^ v.getLsbD 2 ^^ v.getLsbD 3 ^^ v.getLsbD 4 ^^ v.getLsbD 5 ^^ v.getLsbD 6 ^^ v.getLsbD 7)

/-! ### 8-bit arithmetic and logic (43_alu8.md) -/

/-- `add8(a, b, cin)` (R551): the result and all eight flags. -/
def add8 (a b : Byte) (cin : Bool) : Byte × Byte :=
  let sum := a.toNat + b.toNat + cin.toNat
  let res : Byte := .ofNat 8 sum
  (res, packF (res.getLsbD 7) (res == 0) (res.getLsbD 5) (decide (a.toNat % 16 + b.toNat % 16 + cin.toNat > 15)) (res.getLsbD 3)
    (a.getLsbD 7 == b.getLsbD 7 && res.getLsbD 7 != a.getLsbD 7) false (decide (sum > 255)))

/-- `sub8(a, b, cin)` (R552): the result and all eight flags. -/
def sub8 (a b : Byte) (cin : Bool) : Byte × Byte :=
  let diff : Int := (a.toNat : Int) - b.toNat - cin.toNat
  let res : Byte := .ofInt 8 diff
  (res, packF (res.getLsbD 7) (res == 0) (res.getLsbD 5) (decide (((a.toNat % 16 : Nat) : Int) - (b.toNat % 16 : Nat) - cin.toNat < 0))
    (res.getLsbD 3) (a.getLsbD 7 != b.getLsbD 7 && res.getLsbD 7 != a.getLsbD 7) true (decide (diff < 0)))

/-- `logic8(res, h)` (R553): the flags of a logic result. -/
def logic8 (res : Byte) (h : Bool) : Byte :=
  packF (res.getLsbD 7) (res == 0) (res.getLsbD 5) h (res.getLsbD 3) (parity res) false false

/-- The flags of CP (R561): those of the subtraction, with Y and X from the operand. -/
def cpFlags (a b : Byte) : Byte := ((sub8 a b false).2 &&& 0xD7#8) ||| (b &&& 0x28#8)

/-- The flags of INC (R562) from the old value, the result and the old F. -/
def incFlags (v res f : Byte) : Byte :=
  packF (res.getLsbD 7) (res == 0) (res.getLsbD 5) (decide (v.toNat % 16 = 15)) (res.getLsbD 3) (v == 0x7F#8) false (fC f)

/-- The flags of DEC (R566) from the old value, the result and the old F. -/
def decFlags (v res f : Byte) : Byte :=
  packF (res.getLsbD 7) (res == 0) (res.getLsbD 5) (decide (v.toNat % 16 = 0)) (res.getLsbD 3) (v == 0x80#8) true (fC f)

/-- The eight accumulator operations (30_encoding.md R310). -/
inductive AluOp where
  | add | adc | sub | sbc | and | xor | or | cp
  deriving DecidableEq, Repr, Inhabited

/-- The new A and the new F of an accumulator operation on A, an operand and F (R554 to R561). -/
def aluResult (op : AluOp) (a v f : Byte) : Byte × Byte :=
  match op with
  | .add => add8 a v false
  | .adc => add8 a v (fC f)
  | .sub => sub8 a v false
  | .sbc => sub8 a v (fC f)
  | .and => (a &&& v, logic8 (a &&& v) true)
  | .xor => (a ^^^ v, logic8 (a ^^^ v) false)
  | .or => (a ||| v, logic8 (a ||| v) false)
  | .cp => (a, cpFlags a v)

/-! ### General arithmetic (44_general_control.md) -/

/-- DAA (R600): the new A and the new F. -/
def daaResult (a f : Byte) : Byte × Byte :=
  let six := fH f || decide (a.toNat % 16 > 9)
  let sixty := fC f || decide (a.toNat > 0x99)
  let corr : Byte := bit six 0x06#8 + bit sixty 0x60#8
  let res := if fN f then a - corr else a + corr
  let h := if fN f then fH f && decide (a.toNat % 16 < 6) else decide (a.toNat % 16 > 9)
  (res, packF (res.getLsbD 7) (res == 0) (res.getLsbD 5) h (res.getLsbD 3) (parity res) (fN f) sixty)

/-- The flags of CPL (R601) from the new A and the old F. -/
def cplFlags (a f : Byte) : Byte := (f &&& 0xC5#8) ||| 0x12#8 ||| (a &&& 0x28#8)

/-- The flags of CCF (R603) but for Y and X. -/
def ccfFlags (f : Byte) : Byte := packF (fS f) (fZ f) false (fC f) false (fPV f) false (!fC f)

/-- The flags of SCF (R604) but for Y and X. -/
def scfFlags (f : Byte) : Byte := packF (fS f) (fZ f) false false false (fPV f) false true

/-- The flags of LD A,I and LD A,R (40_load8.md R418, R419) from the new A, IFF2 and the old F. -/
def ldAIFlags (a : Byte) (iff2 : Bool) (f : Byte) : Byte :=
  packF (a.getLsbD 7) (a == 0) (a.getLsbD 5) false (a.getLsbD 3) iff2 false (fC f)

/-- The flags of IN r,(C) (48_io.md R771) and of RLD and RRD (46_rotate_shift_bit.md R673) from the value and the old F. -/
def valueFlags (v f : Byte) : Byte :=
  packF (v.getLsbD 7) (v == 0) (v.getLsbD 5) false (v.getLsbD 3) (parity v) false (fC f)

/-! ### 16-bit arithmetic (45_alu16.md) -/

/-- ADD HL,ss, ADD IX,pp and ADD IY,rr (R630, R633, R634): the sum and the new F. -/
def add16 (a b : Word) (f : Byte) : Word × Byte :=
  let sum := a.toNat + b.toNat
  let res : Word := .ofNat 16 sum
  (res, packF (fS f) (fZ f) (res.getLsbD 13) (decide (a.toNat % 4096 + b.toNat % 4096 > 4095)) (res.getLsbD 11) (fPV f) false
    (decide (sum > 0xFFFF)))

/-- ADC HL,ss (R631): the sum and all eight flags. -/
def adc16 (a b : Word) (c : Bool) : Word × Byte :=
  let sum := a.toNat + b.toNat + c.toNat
  let res : Word := .ofNat 16 sum
  (res, packF (res.getLsbD 15) (res == 0) (res.getLsbD 13) (decide (a.toNat % 4096 + b.toNat % 4096 + c.toNat > 4095)) (res.getLsbD 11)
    (a.getLsbD 15 == b.getLsbD 15 && res.getLsbD 15 != a.getLsbD 15) false (decide (sum > 0xFFFF)))

/-- SBC HL,ss (R632): the difference and all eight flags. -/
def sbc16 (a b : Word) (c : Bool) : Word × Byte :=
  let diff : Int := (a.toNat : Int) - b.toNat - c.toNat
  let res : Word := .ofInt 16 diff
  (res, packF (res.getLsbD 15) (res == 0) (res.getLsbD 13)
    (decide (((a.toNat % 4096 : Nat) : Int) - (b.toNat % 4096 : Nat) - c.toNat < 0)) (res.getLsbD 11)
    (a.getLsbD 15 != b.getLsbD 15 && res.getLsbD 15 != a.getLsbD 15) true (decide (diff < 0)))

/-! ### Rotates, shifts and bits (46_rotate_shift_bit.md) -/

/-- The rotate and shift operations (30_encoding.md R311); `sll` is the undocumented eighth. -/
inductive RotOp where
  | rlc | rrc | rl | rr | sla | sra | sll | srl
  deriving DecidableEq, Repr, Inhabited

/-- The result and the carry out of a rotate or shift of `v` with carry in `c` (R665). -/
def rotate (op : RotOp) (v : Byte) (c : Bool) : Byte × Bool :=
  match op with
  | .rlc => ((v <<< 1) ||| bit (v.getLsbD 7) 0x01#8, v.getLsbD 7)
  | .rrc => ((v >>> 1) ||| bit (v.getLsbD 0) 0x80#8, v.getLsbD 0)
  | .rl => ((v <<< 1) ||| bit c 0x01#8, v.getLsbD 7)
  | .rr => ((v >>> 1) ||| bit c 0x80#8, v.getLsbD 0)
  | .sla => (v <<< 1, v.getLsbD 7)
  | .sra => ((v >>> 1) ||| (v &&& 0x80#8), v.getLsbD 0)
  | .sll => ((v <<< 1) ||| 0x01#8, v.getLsbD 7)
  | .srl => (v >>> 1, v.getLsbD 0)

/-- The flags of a CB-table rotate or shift (R665). -/
def rotFlags (res : Byte) (cout : Bool) : Byte :=
  packF (res.getLsbD 7) (res == 0) (res.getLsbD 5) false (res.getLsbD 3) (parity res) false cout

/-- The flags of RLCA, RLA, RRCA and RRA (R660 to R663) from the new A, the carry out and the old F. -/
def accRotFlags (a : Byte) (cout : Bool) (f : Byte) : Byte :=
  packF (fS f) (fZ f) (a.getLsbD 5) false (a.getLsbD 3) (fPV f) false cout

/-- The flags of BIT (R680 to R683) for bit `b` of `v`, with Y and X from `yx` and the old F. -/
def bitFlags (b : BitVec 3) (v yx f : Byte) : Byte :=
  let t := v.getLsbD b.toNat
  packF (b == 7#3 && t) (!t) (yx.getLsbD 5) true (yx.getLsbD 3) (!t) false (fC f)

/-! ### Block instructions (42_exchange_block.md, 48_io.md) -/

/-- The flags of LDI, LDD, LDIR and LDDR (R506) from `k = A + t`, the new BC and the old F. -/
def blockLoadFlags (k : Byte) (bc : Word) (f : Byte) : Byte :=
  packF (fS f) (fZ f) (k.getLsbD 1) false (k.getLsbD 3) (bc != 0) false (fC f)

/-- The flags of CPI, CPD, CPIR and CPDR (R510) from A, the byte compared, the new BC and the old F. -/
def blockCompareFlags (a t : Byte) (bc : Word) (f : Byte) : Byte :=
  let r := a - t
  let hb := decide (a.toNat % 16 < t.toNat % 16)
  let k := r - bit hb 0x01#8
  packF (r.getLsbD 7) (r == 0) (k.getLsbD 1) hb (k.getLsbD 3) (bc != 0) true (fC f)

/-- The flags the block I/O instructions fix (R782): Z from the new B, and N. -/
def blockIoFlags (b : Byte) : Byte := packF false (b == 0) false false false false true false

/-- The bits R782 leaves unspecified: S, Y, H, X, PV and C. -/
def blockIoOpen : Byte := 0xBD#8

/-- The bits CCF, SCF and BIT b,(HL) leave unspecified: Y and X (R603, R604, R681). -/
def xyOpen : Byte := 0x28#8

end Sys2Proof.Machine
end

