-- ==== Sys2Proof/Machine/Operands.lean ====
section
/-! DEFINITION. The operand forms (30_encoding.md R306 to R314) and what an instruction does to its operand: the accumulator operations, the
read-modify-write of a register and of a memory byte, conditions and relative targets. -/

namespace Sys2Proof.Machine

/-! ### Index registers, their halves, effective addresses -/

/-- `HLx`: HL, IX or IY (R312). -/
def getX (x : IndexMode) (s : State) : Word :=
  match x with
  | .hl => getHl s
  | .ix => s.regs.ix
  | .iy => s.regs.iy

/-- Write `HLx` (R312). -/
def setX (x : IndexMode) (v : Word) (s : State) : State :=
  match x with
  | .hl => setHl v s
  | .ix => setIx v s
  | .iy => setIy v s

/-- The high half `Hx` of an index register (R811). -/
def getXh (x : IndexMode) (s : State) : Byte := hiByte (getX x s)
/-- The low half `Lx` of an index register (R811). -/
def getXl (x : IndexMode) (s : State) : Byte := loByte (getX x s)
/-- Write the high half, the low half kept (R811). -/
def setXh (x : IndexMode) (v : Byte) (s : State) : State := setX x (.ofBytes v (getXl x s)) s
/-- Write the low half, the high half kept (R811). -/
def setXl (x : IndexMode) (v : Byte) (s : State) : State := setX x (.ofBytes (getXh x s) v) s

/-- `R8[i]` under an index mode with no memory operand: H and L are the halves (R312 (c)). -/
def getRx (x : IndexMode) (r : Reg8) (s : State) : Byte :=
  match r with
  | .h => getXh x s
  | .l => getXl x s
  | r => getR r s

/-- Write `R8[i]` under an index mode with no memory operand (R312 (c)). -/
def setRx (x : IndexMode) (r : Reg8) (v : Byte) (s : State) : State :=
  match r with
  | .h => setXh x v s
  | .l => setXl x v s
  | r => setR r v s

/-- The operand of ADD IX,pp and ADD IY,rr: code 2 is the index register itself (45_alu16.md R633, R634). -/
def getRpx (x : IndexMode) (p : RPX) (s : State) : Word :=
  match p with
  | .bc => getBc s
  | .de => getDe s
  | .self => getX x s
  | .sp => s.regs.sp

/-- `EA = (IXY + s8(d)) mod 2^16` (R312 (b)). -/
def ea (x : IndexMode) (d : Byte) (s : State) : Word := getX x s + d.signExtend 16

/-! ### Conditions and relative targets -/

/-- `Cond(ccc)` (10_state.md R112). -/
def condHolds (cc : Cond) (s : State) : Bool :=
  match cc with
  | .nz => !fZ s.regs.f
  | .z => fZ s.regs.f
  | .nc => !fC s.regs.f
  | .c => fC s.regs.f
  | .po => !fPV s.regs.f
  | .pe => fPV s.regs.f
  | .p => !fS s.regs.f
  | .m => fS s.regs.f

/-- `PC <- (PC + s8(e)) mod 2^16` (R314). -/
def jumpRelative (e : Byte) (s : State) : State := setPc (s.regs.pc + e.signExtend 16) s

/-! ### What an instruction does to its operand -/

/-- An accumulator operation on the operand value `v` (43_alu8.md R554 to R561). -/
def alu (op : AluOp) (v : Byte) (s : State) : State :=
  let p := aluResult op s.regs.a v s.regs.f
  writeF p.2 (setR .a p.1 s)

/-- An accumulator operation on the byte at an address (R550 (3) to (5)). -/
def aluAt (op : AluOp) (addr : Word) (s : State) : State :=
  let m := memReadByte addr s
  alu op m.1 m.2

/-- Replace the byte at an address by `g` of it: one read, then one write (20_memory.md R220). -/
def modifyAt (addr : Word) (g : Byte → Byte) (s : State) : State :=
  let m := memReadByte addr s
  memWriteByte addr (g m.1) m.2

/-- INC of the byte at an address (43_alu8.md R563 to R565). -/
def incAt (addr : Word) (s : State) : State :=
  let m := memReadByte addr s
  let res := m.1 + 1#8
  writeF (incFlags m.1 res s.regs.f) (memWriteByte addr res m.2)

/-- DEC of the byte at an address (43_alu8.md R567 to R569). -/
def decAt (addr : Word) (s : State) : State :=
  let m := memReadByte addr s
  let res := m.1 - 1#8
  writeF (decFlags m.1 res s.regs.f) (memWriteByte addr res m.2)

/-- INC of a register, under an index mode of its half (R562, R811). -/
def incRx (x : IndexMode) (r : Reg8) (s : State) : State :=
  let v := getRx x r s
  let res := v + 1#8
  writeF (incFlags v res s.regs.f) (setRx x r res s)

/-- DEC of a register, under an index mode of its half (R566, R811). -/
def decRx (x : IndexMode) (r : Reg8) (s : State) : State :=
  let v := getRx x r s
  let res := v - 1#8
  writeF (decFlags v res s.regs.f) (setRx x r res s)

/-- A CB-table rotate or shift of a register (46_rotate_shift_bit.md R664 (1)). -/
def rotR (op : RotOp) (r : Reg8) (s : State) : State :=
  let p := rotate op (getR r s) (fC s.regs.f)
  writeF (rotFlags p.1 p.2) (setR r p.1 s)

/-- A CB-table rotate or shift of the byte at an address: the result and the state after (R664 (2) to (4)). -/
def rotAt (op : RotOp) (addr : Word) (s : State) : Byte × State :=
  let m := memReadByte addr s
  let p := rotate op m.1 (fC s.regs.f)
  (p.1, writeF (rotFlags p.1 p.2) (memWriteByte addr p.1 m.2))

/-- The copying form of R815: the result also goes to a register. -/
def rotAtCopy (op : RotOp) (addr : Word) (r : Reg8) (s : State) : State :=
  let p := rotAt op addr s
  setR r p.1 p.2

/-- An accumulator rotate (46_rotate_shift_bit.md R660 to R663). -/
def rotAcc (op : RotOp) (s : State) : State :=
  let p := rotate op s.regs.a (fC s.regs.f)
  writeF (accRotFlags p.1 p.2 s.regs.f) (setR .a p.1 s)

/-- `v` with bit `b` set (R684). -/
def setBit (b : BitVec 3) (v : Byte) : Byte := v ||| (1#8 <<< b.toNat)

/-- `v` with bit `b` cleared (R688). -/
def clearBit (b : BitVec 3) (v : Byte) : Byte := v &&& (0xFF#8 ^^^ (1#8 <<< b.toNat))

/-- Replace the byte at an address by `g` of it and copy the result to a register (R815). -/
def modifyAtCopy (addr : Word) (g : Byte → Byte) (r : Reg8) (s : State) : State :=
  let m := memReadByte addr s
  setR r (g m.1) (memWriteByte addr (g m.1) m.2)

/-- BIT of the byte at an effective address: Y and X from the high byte of the address (R682, R683). -/
def bitAtEa (b : BitVec 3) (addr : Word) (s : State) : State :=
  let m := memReadByte addr s
  writeF (bitFlags b m.1 (hiByte addr) s.regs.f) m.2

/-! ### Shapes shared by several instructions -/

/-- Load a register from memory. -/
def loadR (r : Reg8) (addr : Word) (s : State) : State :=
  let m := memReadByte addr s
  setR r m.1 m.2

/-- `POP`: the word on the stack, handed to a write (41_load16_stack.md R468). -/
def popTo (wr : Word → State → State) (s : State) : State :=
  let m := pop16 s
  wr m.1 m.2

/-- Load a word from memory, handed to a write. -/
def loadWord (addr : Word) (wr : Word → State → State) (s : State) : State :=
  let m := memReadWord addr s
  wr m.1 m.2

/-- `EX (SP),HLx` (42_exchange_block.md R503 to R505). -/
def exchangeStack (x : IndexMode) (s : State) : State :=
  let m := memReadWord s.regs.sp s
  setX x m.1 (memWriteWord s.regs.sp (getX x s) m.2)

/-- `Push16(PC); PC <- target` (47_jump_call_return.md R735, R741). -/
def call (target : Word) (s : State) : State := setPc target (push16 s.regs.pc s)

/-- `ADD HLx` (45_alu16.md R630, R633, R634). -/
def addX (x : IndexMode) (v : Word) (s : State) : State :=
  let p := add16 (getX x s) v s.regs.f
  writeF p.2 (setX x p.1 s)

/-- `PC <- (PC - 2) mod 2^16`: the same two bytes run again as the next step (42_exchange_block.md R507). -/
def repeatInstr (s : State) : State := setPc (s.regs.pc - 2#16) s

end Sys2Proof.Machine
end

