-- ==== Sys2Proof/Machine/Alu16.lean ====
section
/-! DEFINITION. The 16-bit arithmetic group (45_alu16.md). -/

namespace Sys2Proof.Machine

/-- INC ss. 45_alu16.md R635. -/
def execIncSs (ss : RP) (s : State) : Result := .next (spend 6 1 (setRp ss (getRp ss s + 1#16) s))

/-- ADD HL,ss. 45_alu16.md R630. -/
def execAddHlSs (ss : RP) (s : State) : Result := .next (spend 11 1 (addX .hl (getRp ss s) s))

/-- DEC ss. 45_alu16.md R638. -/
def execDecSs (ss : RP) (s : State) : Result := .next (spend 6 1 (setRp ss (getRp ss s - 1#16) s))

/-- SBC HL,ss. 45_alu16.md R632. -/
def execSbcHlSs (ss : RP) (s : State) : Result :=
  let p := sbc16 (getHl s) (getRp ss s) (fC s.regs.f)
  .next (spend 15 2 (writeF p.2 (setHl p.1 s)))

/-- ADC HL,ss. 45_alu16.md R631. -/
def execAdcHlSs (ss : RP) (s : State) : Result :=
  let p := adc16 (getHl s) (getRp ss s) (fC s.regs.f)
  .next (spend 15 2 (writeF p.2 (setHl p.1 s)))

/-- ADD IX,pp. 45_alu16.md R633. -/
def execAddIxPp (pp : RPX) (s : State) : Result := .next (spend 15 2 (addX .ix (getRpx .ix pp s) s))

/-- ADD IY,rr. 45_alu16.md R634. -/
def execAddIyRr (rr : RPX) (s : State) : Result := .next (spend 15 2 (addX .iy (getRpx .iy rr s) s))

/-- INC IX. 45_alu16.md R636. -/
def execIncIx (s : State) : Result := .next (spend 10 2 (setIx (s.regs.ix + 1#16) s))

/-- DEC IX. 45_alu16.md R639. -/
def execDecIx (s : State) : Result := .next (spend 10 2 (setIx (s.regs.ix - 1#16) s))

/-- INC IY. 45_alu16.md R637. -/
def execIncIy (s : State) : Result := .next (spend 10 2 (setIy (s.regs.iy + 1#16) s))

/-- DEC IY. 45_alu16.md R640. -/
def execDecIy (s : State) : Result := .next (spend 10 2 (setIy (s.regs.iy - 1#16) s))

end Sys2Proof.Machine
end

