-- ==== Sys2Proof/Machine/Alu8.lean ====
section
/-! DEFINITION. The 8-bit arithmetic and logic group (43_alu8.md). -/

namespace Sys2Proof.Machine

/-- INC r. 43_alu8.md R562. -/
def execIncR (r : Reg8) (s : State) : Result := .next (spend 4 1 (incRx .hl r s))

/-- DEC r. 43_alu8.md R566. -/
def execDecR (r : Reg8) (s : State) : Result := .next (spend 4 1 (decRx .hl r s))

/-- ADD A,r. 43_alu8.md R554. -/
def execAddAR (src : Reg8) (s : State) : Result := .next (spend 4 1 (alu .add (getR src s) s))

/-- ADD A,n. 43_alu8.md R554. -/
def execAddAN (n : Byte) (s : State) : Result := .next (spend 7 2 (alu .add n s))

/-- ADC A,r. 43_alu8.md R555. -/
def execAdcAR (src : Reg8) (s : State) : Result := .next (spend 4 1 (alu .adc (getR src s) s))

/-- ADC A,n. 43_alu8.md R555. -/
def execAdcAN (n : Byte) (s : State) : Result := .next (spend 7 2 (alu .adc n s))

/-- SUB r. 43_alu8.md R556. -/
def execSubR (src : Reg8) (s : State) : Result := .next (spend 4 1 (alu .sub (getR src s) s))

/-- SUB n. 43_alu8.md R556. -/
def execSubN (n : Byte) (s : State) : Result := .next (spend 7 2 (alu .sub n s))

/-- SBC A,r. 43_alu8.md R557. -/
def execSbcAR (src : Reg8) (s : State) : Result := .next (spend 4 1 (alu .sbc (getR src s) s))

/-- SBC A,n. 43_alu8.md R557. -/
def execSbcAN (n : Byte) (s : State) : Result := .next (spend 7 2 (alu .sbc n s))

/-- AND r. 43_alu8.md R558. -/
def execAndR (src : Reg8) (s : State) : Result := .next (spend 4 1 (alu .and (getR src s) s))

/-- AND n. 43_alu8.md R558. -/
def execAndN (n : Byte) (s : State) : Result := .next (spend 7 2 (alu .and n s))

/-- XOR r. 43_alu8.md R559. -/
def execXorR (src : Reg8) (s : State) : Result := .next (spend 4 1 (alu .xor (getR src s) s))

/-- XOR n. 43_alu8.md R559. -/
def execXorN (n : Byte) (s : State) : Result := .next (spend 7 2 (alu .xor n s))

/-- OR r. 43_alu8.md R560. -/
def execOrR (src : Reg8) (s : State) : Result := .next (spend 4 1 (alu .or (getR src s) s))

/-- OR n. 43_alu8.md R560. -/
def execOrN (n : Byte) (s : State) : Result := .next (spend 7 2 (alu .or n s))

/-- CP r. 43_alu8.md R561. -/
def execCpR (src : Reg8) (s : State) : Result := .next (spend 4 1 (alu .cp (getR src s) s))

/-- CP n. 43_alu8.md R561. -/
def execCpN (n : Byte) (s : State) : Result := .next (spend 7 2 (alu .cp n s))

/-- INC (IX+d). 43_alu8.md R564. -/
def execIncAtIx (d : Byte) (s : State) : Result := .next (spend 23 5 (incAt (ea .ix d s) s))

/-- DEC (IX+d). 43_alu8.md R568. -/
def execDecAtIx (d : Byte) (s : State) : Result := .next (spend 23 5 (decAt (ea .ix d s) s))

/-- ADD A,(IX+d). 43_alu8.md R554. -/
def execAddAAtIx (d : Byte) (s : State) : Result := .next (spend 19 4 (aluAt .add (ea .ix d s) s))

/-- ADC A,(IX+d). 43_alu8.md R555. -/
def execAdcAAtIx (d : Byte) (s : State) : Result := .next (spend 19 4 (aluAt .adc (ea .ix d s) s))

/-- SUB (IX+d). 43_alu8.md R556. -/
def execSubAtIx (d : Byte) (s : State) : Result := .next (spend 19 4 (aluAt .sub (ea .ix d s) s))

/-- SBC A,(IX+d). 43_alu8.md R557. -/
def execSbcAAtIx (d : Byte) (s : State) : Result := .next (spend 19 4 (aluAt .sbc (ea .ix d s) s))

/-- AND (IX+d). 43_alu8.md R558. -/
def execAndAtIx (d : Byte) (s : State) : Result := .next (spend 19 4 (aluAt .and (ea .ix d s) s))

/-- XOR (IX+d). 43_alu8.md R559. -/
def execXorAtIx (d : Byte) (s : State) : Result := .next (spend 19 4 (aluAt .xor (ea .ix d s) s))

/-- OR (IX+d). 43_alu8.md R560. -/
def execOrAtIx (d : Byte) (s : State) : Result := .next (spend 19 4 (aluAt .or (ea .ix d s) s))

/-- CP (IX+d). 43_alu8.md R561. -/
def execCpAtIx (d : Byte) (s : State) : Result := .next (spend 19 4 (aluAt .cp (ea .ix d s) s))

/-- INC (IY+d). 43_alu8.md R565. -/
def execIncAtIy (d : Byte) (s : State) : Result := .next (spend 23 5 (incAt (ea .iy d s) s))

/-- DEC (IY+d). 43_alu8.md R569. -/
def execDecAtIy (d : Byte) (s : State) : Result := .next (spend 23 5 (decAt (ea .iy d s) s))

/-- ADD A,(IY+d). 43_alu8.md R554. -/
def execAddAAtIy (d : Byte) (s : State) : Result := .next (spend 19 4 (aluAt .add (ea .iy d s) s))

/-- ADC A,(IY+d). 43_alu8.md R555. -/
def execAdcAAtIy (d : Byte) (s : State) : Result := .next (spend 19 4 (aluAt .adc (ea .iy d s) s))

/-- SUB (IY+d). 43_alu8.md R556. -/
def execSubAtIy (d : Byte) (s : State) : Result := .next (spend 19 4 (aluAt .sub (ea .iy d s) s))

/-- SBC A,(IY+d). 43_alu8.md R557. -/
def execSbcAAtIy (d : Byte) (s : State) : Result := .next (spend 19 4 (aluAt .sbc (ea .iy d s) s))

/-- AND (IY+d). 43_alu8.md R558. -/
def execAndAtIy (d : Byte) (s : State) : Result := .next (spend 19 4 (aluAt .and (ea .iy d s) s))

/-- XOR (IY+d). 43_alu8.md R559. -/
def execXorAtIy (d : Byte) (s : State) : Result := .next (spend 19 4 (aluAt .xor (ea .iy d s) s))

/-- OR (IY+d). 43_alu8.md R560. -/
def execOrAtIy (d : Byte) (s : State) : Result := .next (spend 19 4 (aluAt .or (ea .iy d s) s))

/-- CP (IY+d). 43_alu8.md R561. -/
def execCpAtIy (d : Byte) (s : State) : Result := .next (spend 19 4 (aluAt .cp (ea .iy d s) s))

/-- INC (HL). 43_alu8.md R563. -/
def execIncAtHl (s : State) : Result := .next (spend 11 3 (incAt (getHl s) s))

/-- DEC (HL). 43_alu8.md R567. -/
def execDecAtHl (s : State) : Result := .next (spend 11 3 (decAt (getHl s) s))

/-- ADD A,(HL). 43_alu8.md R554. -/
def execAddAAtHl (s : State) : Result := .next (spend 7 2 (aluAt .add (getHl s) s))

/-- ADC A,(HL). 43_alu8.md R555. -/
def execAdcAAtHl (s : State) : Result := .next (spend 7 2 (aluAt .adc (getHl s) s))

/-- SUB (HL). 43_alu8.md R556. -/
def execSubAtHl (s : State) : Result := .next (spend 7 2 (aluAt .sub (getHl s) s))

/-- SBC A,(HL). 43_alu8.md R557. -/
def execSbcAAtHl (s : State) : Result := .next (spend 7 2 (aluAt .sbc (getHl s) s))

/-- AND (HL). 43_alu8.md R558. -/
def execAndAtHl (s : State) : Result := .next (spend 7 2 (aluAt .and (getHl s) s))

/-- XOR (HL). 43_alu8.md R559. -/
def execXorAtHl (s : State) : Result := .next (spend 7 2 (aluAt .xor (getHl s) s))

/-- OR (HL). 43_alu8.md R560. -/
def execOrAtHl (s : State) : Result := .next (spend 7 2 (aluAt .or (getHl s) s))

/-- CP (HL). 43_alu8.md R561. -/
def execCpAtHl (s : State) : Result := .next (spend 7 2 (aluAt .cp (getHl s) s))

end Sys2Proof.Machine
end

