-- ==== Sys2Proof/Machine/Bit.lean ====
section
/-! DEFINITION. Bit test, set and reset (46_rotate_shift_bit.md). -/

namespace Sys2Proof.Machine

/-- BIT b,r. 46_rotate_shift_bit.md R680. -/
def execBitR (b : BitVec 3) (r : Reg8) (s : State) : Result :=
  .next (spend 8 2 (writeF (bitFlags b (getR r s) (getR r s) s.regs.f) s))

/-- BIT b,(HL). 46_rotate_shift_bit.md R681. -/
def execBitAtHl (b : BitVec 3) (s : State) : Result :=
  let m := memReadByte (getHl s) s
  .next (spend 12 3 (writeFOpen xyOpen (bitFlags b m.1 0#8 s.regs.f) m.2))

/-- RES b,r. 46_rotate_shift_bit.md R688. -/
def execResR (b : BitVec 3) (r : Reg8) (s : State) : Result := .next (spend 8 2 (setR r (clearBit b (getR r s)) s))

/-- RES b,(HL). 46_rotate_shift_bit.md R689. -/
def execResAtHl (b : BitVec 3) (s : State) : Result := .next (spend 15 4 (modifyAt (getHl s) (clearBit b) s))

/-- SET b,r. 46_rotate_shift_bit.md R684. -/
def execSetR (b : BitVec 3) (r : Reg8) (s : State) : Result := .next (spend 8 2 (setR r (setBit b (getR r s)) s))

/-- SET b,(HL). 46_rotate_shift_bit.md R685. -/
def execSetAtHl (b : BitVec 3) (s : State) : Result := .next (spend 15 4 (modifyAt (getHl s) (setBit b) s))

/-- BIT b,(IX+d). 46_rotate_shift_bit.md R682. -/
def execBitAtIx (d : Byte) (b : BitVec 3) (s : State) : Result := .next (spend 20 5 (bitAtEa b (ea .ix d s) s))

/-- RES b,(IX+d). 46_rotate_shift_bit.md R690. -/
def execResAtIx (d : Byte) (b : BitVec 3) (s : State) : Result := .next (spend 23 6 (modifyAt (ea .ix d s) (clearBit b) s))

/-- SET b,(IX+d). 46_rotate_shift_bit.md R686. -/
def execSetAtIx (d : Byte) (b : BitVec 3) (s : State) : Result := .next (spend 23 6 (modifyAt (ea .ix d s) (setBit b) s))

/-- BIT b,(IY+d). 46_rotate_shift_bit.md R683. -/
def execBitAtIy (d : Byte) (b : BitVec 3) (s : State) : Result := .next (spend 20 5 (bitAtEa b (ea .iy d s) s))

/-- RES b,(IY+d). 46_rotate_shift_bit.md R691. -/
def execResAtIy (d : Byte) (b : BitVec 3) (s : State) : Result := .next (spend 23 6 (modifyAt (ea .iy d s) (clearBit b) s))

/-- SET b,(IY+d). 46_rotate_shift_bit.md R687. -/
def execSetAtIy (d : Byte) (b : BitVec 3) (s : State) : Result := .next (spend 23 6 (modifyAt (ea .iy d s) (setBit b) s))

end Sys2Proof.Machine
end

