-- ==== Sys2Proof/Machine/Control.lean ====
section
/-! DEFINITION. General-purpose arithmetic and CPU control (44_general_control.md). -/

namespace Sys2Proof.Machine

/-- NOP. 44_general_control.md R605. -/
def execNop (s : State) : Result := .next (spend 4 1 s)

/-- DAA. 44_general_control.md R600. -/
def execDaa (s : State) : Result :=
  let p := daaResult s.regs.a s.regs.f
  .next (spend 4 1 (writeF p.2 (setR .a p.1 s)))

/-- CPL. 44_general_control.md R601. -/
def execCpl (s : State) : Result :=
  let v := s.regs.a ^^^ 0xFF#8
  .next (spend 4 1 (writeF (cplFlags v s.regs.f) (setR .a v s)))

/-- SCF. 44_general_control.md R604. -/
def execScf (s : State) : Result := .next (spend 4 1 (writeFOpen xyOpen (scfFlags s.regs.f) s))

/-- CCF. 44_general_control.md R603. -/
def execCcf (s : State) : Result := .next (spend 4 1 (writeFOpen xyOpen (ccfFlags s.regs.f) s))

/-- HALT. 44_general_control.md R606. -/
def execHalt (s : State) : Result :=
  .next (spend 4 1 (setHalted true (setPc (s.regs.pc - 1#16) s)))

/-- DI. 44_general_control.md R607. -/
def execDi (s : State) : Result :=
  .next (spend 4 1 (setAfterEiDi true (setIffs false false s)))

/-- EI. 44_general_control.md R608. -/
def execEi (s : State) : Result := .next (spend 4 1 (setAfterEiDi true (setIffs true true s)))

/-- NEG. 44_general_control.md R602. -/
def execNeg (s : State) : Result :=
  let p := sub8 0#8 s.regs.a false
  .next (spend 8 2 (writeF p.2 (setR .a p.1 s)))

/-- IM 0. 44_general_control.md R609. -/
def execIm0 (s : State) : Result := .next (spend 8 2 (setIm .im0 s))

/-- IM 1. 44_general_control.md R610. -/
def execIm1 (s : State) : Result := .next (spend 8 2 (setIm .im1 s))

/-- IM 2. 44_general_control.md R611. -/
def execIm2 (s : State) : Result := .next (spend 8 2 (setIm .im2 s))

end Sys2Proof.Machine
end

