-- ==== Sys2Proof/Machine/Exchange.lean ====
section
/-! DEFINITION. Exchanges, block transfer and block search (42_exchange_block.md). -/

namespace Sys2Proof.Machine

/-- One iteration of a block transfer, HL and DE moved by `delta` (R506, R508). -/
def blockLoad (delta : Word) (s : State) : State :=
  let m := memReadByte (getHl s) s
  let bc := getBc s - 1#16
  let f := blockLoadFlags (s.regs.a + m.1) bc s.regs.f
  writeF f (setBc bc (setDe (getDe s + delta) (setHl (getHl s + delta) (memWriteByte (getDe s) m.1 m.2))))

/-- One iteration of a block search, HL moved by `delta` (R510, R512): whether the byte is A, and the state after. -/
def blockCompare (delta : Word) (s : State) : Bool × State :=
  let m := memReadByte (getHl s) s
  let bc := getBc s - 1#16
  (s.regs.a == m.1, writeF (blockCompareFlags s.regs.a m.1 bc s.regs.f) (setBc bc (setHl (getHl s + delta) m.2)))

/-- EX AF,AF'. 42_exchange_block.md R501. -/
def execExAfAf (s : State) : Result :=
  .next (spend 4 1 (s.mapRegs fun g => { g with a := g.a', f := g.f', a' := g.a, f' := g.f }))

/-- EXX. 42_exchange_block.md R502. -/
def execExx (s : State) : Result :=
  .next (spend 4 1 (s.mapRegs fun g =>
    { g with b := g.b', c := g.c', d := g.d', e := g.e', h := g.h', l := g.l', b' := g.b, c' := g.c, d' := g.d, e' := g.e, h' := g.h, l' := g.l }))

/-- EX (SP),HL. 42_exchange_block.md R503. -/
def execExAtSpHl (s : State) : Result := .next (spend 19 5 (exchangeStack .hl s))

/-- EX DE,HL. 42_exchange_block.md R500. -/
def execExDeHl (s : State) : Result := .next (spend 4 1 (setHl (getDe s) (setDe (getHl s) s)))

/-- LDI. 42_exchange_block.md R506. -/
def execLdi (s : State) : Result := .next (spend 16 4 (blockLoad 1#16 s))

/-- CPI. 42_exchange_block.md R510. -/
def execCpi (s : State) : Result := .next (spend 16 3 ((blockCompare 1#16 s).2))

/-- LDD. 42_exchange_block.md R508. -/
def execLdd (s : State) : Result := .next (spend 16 4 (blockLoad 0xFFFF#16 s))

/-- CPD. 42_exchange_block.md R512. -/
def execCpd (s : State) : Result := .next (spend 16 3 ((blockCompare 0xFFFF#16 s).2))

/-- LDIR. 42_exchange_block.md R507. -/
def execLdir (s : State) : Result :=
  let s := blockLoad 1#16 s
  .next (if getBc s = 0#16 then spend 16 4 s else spend 21 4 (repeatInstr s))

/-- CPIR. 42_exchange_block.md R511. -/
def execCpir (s : State) : Result :=
  let p := blockCompare 1#16 s
  .next (if getBc p.2 = 0#16 || p.1 then spend 16 3 p.2 else spend 21 3 (repeatInstr p.2))

/-- LDDR. 42_exchange_block.md R509. -/
def execLddr (s : State) : Result :=
  let s := blockLoad 0xFFFF#16 s
  .next (if getBc s = 0#16 then spend 16 4 s else spend 21 4 (repeatInstr s))

/-- CPDR. 42_exchange_block.md R513. -/
def execCpdr (s : State) : Result :=
  let p := blockCompare 0xFFFF#16 s
  .next (if getBc p.2 = 0#16 || p.1 then spend 16 3 p.2 else spend 21 3 (repeatInstr p.2))

/-- EX (SP),IX. 42_exchange_block.md R504. -/
def execExAtSpIx (s : State) : Result := .next (spend 23 6 (exchangeStack .ix s))

/-- EX (SP),IY. 42_exchange_block.md R505. -/
def execExAtSpIy (s : State) : Result := .next (spend 23 6 (exchangeStack .iy s))

end Sys2Proof.Machine
end

