-- ==== Sys2Proof/Machine/Disk.lean ====
section
/-! DEFINITION. The disk behind the controller: the reference disk of 62_fdc.md R1106 and the free disk of R1105, whose every answer is a
draw brought within the laws of that rule's table; then the calls the controller makes. -/

namespace Sys2Proof.Machine

/-! ### Status bits the disk answers with (R1105, positions R1110) -/

/-- `CRC_ERROR`. -/
def stCrcError : Byte := 0x08#8
/-- `RECORD_NOT_FOUND`. -/
def stRecordNotFound : Byte := 0x10#8
/-- `DELETED_DATA` on reads, `WRITE_FAULT` on writes. -/
def stDeletedData : Byte := 0x20#8
/-- `WRITE_PROTECT`. -/
def stWriteProtect : Byte := 0x40#8

/-- `mask` where the bit is 1, else 0. -/
def statusBit (b : Bool) (mask : Byte) : Byte := if b then mask else 0#8

/-! ### The reference disk (R1106) -/

/-- The sectors of a track; none when the disk has no such track. -/
def findTrack (k : TrackKey) : List TrackEntry → Option (List Sector)
  | [] => none
  | t :: rest => if t.key = k then some t.sectors else findTrack k rest

/-- Replace the sectors of a track, or add the track. -/
def putTrack (k : TrackKey) (ss : List Sector) : List TrackEntry → List TrackEntry
  | [] => [⟨k, ss⟩]
  | t :: rest => if t.key = k then ⟨k, ss⟩ :: rest else t :: putTrack k ss rest

/-- `FindInit(s, t)`. -/
def imageFindInit (k : TrackKey) (d : DiskImage) : Bool × DiskImage :=
  match findTrack k d.tracks with
  | some ss => (true, { d with cur := ss, curKey := some k, pos := 0, last := none })
  | none => (false, { d with cur := [], curKey := none, pos := 0, last := none })

/-- `FindNext()`. -/
def imageFindNext (d : DiskImage) : Option (IdField × Byte) × DiskImage :=
  match d.cur[d.pos]? with
  | none => (none, d)
  | some x => (some (x.id, statusBit x.idCrcErr stCrcError), { d with last := some d.pos, pos := d.pos + 1 })

/-- The sector `FindNext` last returned. -/
def imageLast (d : DiskImage) : Option Sector :=
  match d.last with
  | none => none
  | some n => d.cur[n]?

/-- `ReadData()`. -/
def imageReadData (d : DiskImage) : List Byte × Byte :=
  match imageLast d with
  | none => ([], stRecordNotFound)
  | some x =>
    if x.hasData then (x.data, statusBit x.dataCrcErr stCrcError ||| statusBit x.deleted stDeletedData)
    else ([], stRecordNotFound)

/-- A sector with a new data field. -/
def writtenSector (bytes : List Byte) (x : Sector) : Sector := { x with data := bytes, hasData := true, dataCrcErr := false }

/-- `WriteData(bytes)`: the status and the disk after. -/
def imageWriteData (bytes : List Byte) (d : DiskImage) : Byte × DiskImage :=
  if d.readOnly then (stWriteProtect, d)
  else
    match d.last with
    | none => (stRecordNotFound, d)
    | some n =>
      let cur := d.cur.modify n (writtenSector bytes)
      let tracks :=
        match d.curKey with
        | none => d.tracks
        | some k => putTrack k cur d.tracks
      (0#8, { d with cur := cur, tracks := tracks })

/-- A sector as `FormatTrack` makes it. -/
def formattedSector (p : IdField × List Byte) : Sector :=
  { id := p.1, idCrcErr := false, data := p.2, dataCrcErr := false, deleted := false, hasData := true }

/-- `FormatTrack(s, t, ids, datas, n)`: the status and the disk after. -/
def imageFormatTrack (k : TrackKey) (ss : List (IdField × List Byte)) (d : DiskImage) : Byte × DiskImage :=
  if d.readOnly then (stWriteProtect, d) else (0#8, { d with tracks := putTrack k (ss.map formattedSector) d.tracks })

/-! ### Either disk, with the raw answer of a draw for the free one (R1105; log entry 12) -/

/-- Cut or fill a list with zeros to a length. -/
def padTo (n : Nat) (bytes : List Byte) : List Byte := (bytes ++ List.replicate n 0#8).take n

/-- `FindInit(side, track)`. -/
def Disk.findInit (k : TrackKey) (a : DiskAnswer) : Disk → Bool × Disk
  | .image d =>
    let r := imageFindInit k d
    (r.1, .image r.2)
  | .device d => (a.yes, .device { d with scanning := a.yes, seen := 0, last := none })

/-- `FindNext()`: at most 255 IDs a track, none after a `FindInit` that answered false, the status 0 or `CRC_ERROR`. -/
def Disk.findNext (a : DiskAnswer) : Disk → Option (IdField × Byte) × Disk
  | .image d =>
    let r := imageFindNext d
    (r.1, .image r.2)
  | .device d =>
    if d.scanning && decide (d.seen < 255) && a.yes then
      (some (a.id, a.status &&& stCrcError), .device { d with seen := d.seen + 1, last := some a.id })
    else (none, .device d)

/-- `ReadData()`: the length is the sector's unless `RECORD_NOT_FOUND` is in the status. -/
def Disk.readData (a : DiskAnswer) : Disk → List Byte × Byte
  | .image d => imageReadData d
  | .device d =>
    match d.last with
    | none => ([], stRecordNotFound)
    | some id =>
      let st := a.status &&& (stCrcError ||| stRecordNotFound ||| stDeletedData)
      (if st &&& stRecordNotFound = 0#8 then padTo (Config.sectorSize id.size) a.bytes else a.bytes, st)

/-- `WriteData(bytes)`. -/
def Disk.writeData (bytes : List Byte) (a : DiskAnswer) : Disk → Byte × Disk
  | .image d =>
    let r := imageWriteData bytes d
    (r.1, .image r.2)
  | .device d => (a.status &&& (stWriteProtect ||| stRecordNotFound ||| stDeletedData), .device d)

/-- `FormatTrack(side, track, ids, datas, count)`. -/
def Disk.formatTrack (k : TrackKey) (ss : List (IdField × List Byte)) (a : DiskAnswer) : Disk → Byte × Disk
  | .image d =>
    let r := imageFormatTrack k ss d
    (r.1, .image r.2)
  | .device d => (a.status &&& stWriteProtect, .device d)

/-- `IsBusy(false)`: busy, or the completion status of the staged operation, kept to the error bits (log entry 14). -/
def Disk.isBusy (a : DiskAnswer) : Disk → Bool × Byte
  | .image _ => (false, 0#8)
  | .device _ => (a.yes, a.status &&& (stCrcError ||| stRecordNotFound ||| stDeletedData ||| stWriteProtect))

/-- `IsReadOnly()`. -/
def Disk.isReadOnly (a : DiskAnswer) : Disk → Bool
  | .image d => d.readOnly
  | .device _ => a.yes

/-- Whether the disk is "a real physical device" (R1180). -/
def Disk.physical : Disk → Bool
  | .image d => d.physical
  | .device d => d.physical

/-- The most `FindNext` calls a scan can make (R1105: "at most 255 sectors per track", and the call that ends it). -/
def Disk.scanBound : Disk → Nat
  | .image d => d.cur.length + 1
  | .device _ => 256

/-! ### Insert and eject (R1107) -/

/-- A sector's data field has the length its size code says (R1106). -/
def sectorWf (x : Sector) : Bool := decide (x.data.length = Config.sectorSize x.id.size)

/-- What R1105 and R1106 ask of a disk: at most 255 sectors a track, each data field of its sector's length. -/
def Disk.wf : Disk → Bool
  | .image d => d.tracks.all fun t => decide (t.sectors.length ≤ 255) && t.sectors.all sectorWf
  | .device _ => true

/-- The disk with no scan open. -/
def Disk.fresh : Disk → Disk
  | .image d => .image { d with cur := [], curKey := none, pos := 0, last := none }
  | .device d => .device { d with scanning := false, seen := 0, last := none }

/-- Put a disk in the drive or take it out: `fdc.disk` changes and nothing else (R1107). -/
def setDisk (d : Option Disk) (s : State) : State := s.mapFdc fun f => { f with disk := d }

/-- Insert a disk; one that is not a disk of R1106 is not inserted (log entry 13). -/
def insertDisk (d : Disk) (s : State) : State := if Disk.wf d then setDisk (some (Disk.fresh d)) s else s

/-! ### The calls the controller makes on its disk

Each makes one call, and draws one answer when the disk is the free one. With no disk each answers "nothing found". -/

/-- The raw answer of one call. -/
def rawAnswer (d : Disk) (s : State) : DiskAnswer × State :=
  match d with
  | .image _ => (⟨false, ⟨0, 0, 0, 0⟩, 0, []⟩, s)
  | .device _ => (Config.diskAnswer s.draws, s.nextDraw)

/-- The track under the head on the latched side. -/
def headKey (s : State) : TrackKey := ⟨s.fdc.side, s.fdc.head⟩

/-- `FindInit(fdc.side, fdc.head)`. -/
def diskFindInit (s : State) : Bool × State :=
  match s.fdc.disk with
  | none => (false, s)
  | some d =>
    let a := rawAnswer d s
    let r := Disk.findInit (headKey s) a.1 d
    (r.1, setDisk (some r.2) a.2)

/-- `FindNext()`. -/
def diskFindNext (s : State) : Option (IdField × Byte) × State :=
  match s.fdc.disk with
  | none => (none, s)
  | some d =>
    let a := rawAnswer d s
    let r := Disk.findNext a.1 d
    (r.1, setDisk (some r.2) a.2)

/-- `ReadData()`. -/
def diskReadData (s : State) : (List Byte × Byte) × State :=
  match s.fdc.disk with
  | none => (([], stRecordNotFound), s)
  | some d =>
    let a := rawAnswer d s
    (Disk.readData a.1 d, a.2)

/-- `WriteData(bytes)`. -/
def diskWriteData (bytes : List Byte) (s : State) : Byte × State :=
  match s.fdc.disk with
  | none => (stRecordNotFound, s)
  | some d =>
    let a := rawAnswer d s
    let r := Disk.writeData bytes a.1 d
    (r.1, setDisk (some r.2) a.2)

/-- `FormatTrack(fdc.side, fdc.head, …)`. -/
def diskFormatTrack (ss : List (IdField × List Byte)) (s : State) : Byte × State :=
  match s.fdc.disk with
  | none => (stRecordNotFound, s)
  | some d =>
    let a := rawAnswer d s
    let r := Disk.formatTrack (headKey s) ss a.1 d
    (r.1, setDisk (some r.2) a.2)

/-- `IsBusy(false)`. -/
def diskIsBusy (s : State) : (Bool × Byte) × State :=
  match s.fdc.disk with
  | none => ((false, stRecordNotFound), s)
  | some d =>
    let a := rawAnswer d s
    (Disk.isBusy a.1 d, a.2)

/-- `IsReadOnly()`; an absent disk is not read-only. -/
def diskIsReadOnly (s : State) : Bool × State :=
  match s.fdc.disk with
  | none => (false, s)
  | some d =>
    let a := rawAnswer d s
    (Disk.isReadOnly a.1 d, a.2)

/-- `LoadTrack(fdc.side, fdc.head)`: a hint that "changes no answer of any other call" (R1105). -/
def diskLoadTrack (s : State) : State := s

/-- `Close()`: "changes no answer of any other call" (R1105). -/
def diskClose (s : State) : State := s

/-- The most `FindNext` calls the next scan can make. -/
def scanBound (s : State) : Nat :=
  match s.fdc.disk with
  | none => 1
  | some d => Disk.scanBound d

end Sys2Proof.Machine
end

