-- ==== Sys2Proof/Machine/Fdc.lean ====
section
/-! DEFINITION. The floppy disk controller (62_fdc.md): its status bits, the CRC and the raw track stream, lazy execution, the data
register, the commands, its ports and its frame tick. -/

namespace Sys2Proof.Machine

/-! ### Status bits and command types (R1110, R1112) -/

/-- `BUSY`. -/
def stBusy : Byte := 0x01#8
/-- `DRQ` after a type 2 or 3 command. -/
def stDrq : Byte := 0x02#8
/-- `INDEX` after a type 1 or 4 command: in the byte a status read returns only. -/
def stIndex : Byte := 0x02#8
/-- `TRACK00` after a type 1 or 4 command: in the byte a status read returns only. -/
def stTrack00 : Byte := 0x04#8
/-- `MOTOR_ON`. -/
def stMotorOn : Byte := 0x80#8

/-- `BUSY` is set. -/
def fdcBusy (s : State) : Bool := s.fdc.status.getLsbD 0
/-- `DRQ` is set. -/
def fdcDrq (s : State) : Bool := s.fdc.status.getLsbD 1
/-- `MOTOR_ON` is set. -/
def fdcMotorOn (s : State) : Bool := s.fdc.status.getLsbD 7

/-- `IsWrite(cmd)` (R1112). -/
def fdcIsWrite (cmd : Byte) : Bool := cmd == 0xA0#8 || cmd == 0xB0#8 || cmd == 0xF0#8

/-- `StatusIsType1(cmd)` (R1112). -/
def statusIsType1 (cmd : Byte) : Bool := !cmd.getLsbD 7 || cmd == 0xD0#8

/-- Write the stored status. -/
def setStatus (v : Byte) (s : State) : State := s.mapFdc fun f => { f with status := v }

/-- Set bits of the stored status. -/
def orStatus (v : Byte) (s : State) : State := setStatus (s.fdc.status ||| v) s

/-- End a command: `fdc.status <- (fdc.status | st) & ~BUSY`. -/
def endCommand (st : Byte) (s : State) : State := setStatus ((s.fdc.status ||| st) &&& ~~~stBusy) s

/-! ### CRC (R1170) -/

/-- One round of the table's computation. -/
def crcShift (c : Word) : Word := if c.getLsbD 15 then (c <<< 1) ^^^ Config.crcPoly else c <<< 1

/-- `T[i]`: eight rounds from `i << 8`. -/
def crcTable (i : Byte) : Word :=
  crcShift (crcShift (crcShift (crcShift (crcShift (crcShift (crcShift (crcShift (Word.ofBytes i 0#8))))))))

/-- One byte of `Crc`. -/
def crcByte (c : Word) (b : Byte) : Word := (c <<< 8) ^^^ crcTable (hiByte c ^^^ b)

/-- `Crc(bytes, init)`. -/
def crc (bytes : List Byte) (init : Word) : Word := bytes.foldl crcByte init

/-- `IdCrc(id)`. -/
def idCrc (id : IdField) : Word :=
  crc [0xA1#8, 0xA1#8, 0xA1#8, 0xFE#8, id.track, id.side, id.sector, id.size] Config.crcInit

/-- `DataCrc(mark, data)`. -/
def dataCrc (mark : Byte) (data : List Byte) : Word := crc ([0xA1#8, 0xA1#8, 0xA1#8, mark] ++ data) Config.crcInit

/-- A CRC as it stands on the stream, high byte first; one that the status calls bad has every bit flipped. -/
def streamCrc (c : Word) (st : Byte) : List Byte :=
  let c := if st &&& stCrcError = 0#8 then c else c ^^^ 0xFFFF#16
  [hiByte c, loByte c]

/-- The six bytes kept of an ID field found (10_state.md R151, R1143, R1146). -/
def foundId (id : IdField) (c : Word) : FoundId := ⟨id, hiByte c, loByte c⟩

/-- Those six bytes in order. -/
def foundIdBytes (x : FoundId) : List Byte := [x.id.track, x.id.side, x.id.sector, x.id.size, x.crcHi, x.crcLo]

/-! ### The raw track stream (R1171) and the parse of a format write (R1172) -/

/-- A sector read off the track for the stream: its ID and the ID's status, its data and the data's status. -/
structure TrackSector where
  id : IdField
  idStatus : Byte
  data : List Byte
  dataStatus : Byte
  deriving DecidableEq, Repr

/-- The stream of one sector (R1171): without a data field, its ID part and `GAP2` only. -/
def rawSector (x : TrackSector) : List Byte :=
  let idPart :=
    List.replicate Config.sync 0x00#8 ++ [0xA1#8, 0xA1#8, 0xA1#8, 0xFE#8, x.id.track, x.id.side, x.id.sector, x.id.size] ++
      streamCrc (idCrc x.id) x.idStatus ++ List.replicate Config.gap2 0x4E#8
  let mark : Byte := if x.dataStatus &&& stDeletedData = 0#8 then 0xFB#8 else 0xF8#8
  let dataPart :=
    List.replicate Config.sync 0x00#8 ++ [0xA1#8, 0xA1#8, 0xA1#8, mark] ++ x.data ++
      streamCrc (dataCrc mark x.data) x.dataStatus ++ List.replicate Config.gap3 0x4E#8
  if x.dataStatus &&& stRecordNotFound = 0#8 then idPart ++ dataPart else idPart

/-- `RawTrack(ss)` (R1171): exactly `TRACK_LEN` bytes. -/
def rawTrack (ss : List TrackSector) : List Byte :=
  let lead :=
    List.replicate Config.gap4a 0x4E#8 ++ List.replicate Config.sync 0x00#8 ++ [0xC2#8, 0xC2#8, 0xC2#8, 0xFC#8] ++
      List.replicate Config.gap1 0x4E#8
  (lead ++ ss.flatMap rawSector ++ List.replicate Config.trackLen 0x4E#8).take Config.trackLen

/-- The loop of `ParseFormat` (R1172) from position `p` with the pending ID; every turn moves `p` on, so `len` turns are enough. -/
def parseLoop : Nat → List Byte → Nat → Nat → Option IdField → List (IdField × List Byte)
  | 0, _, _, _, _ => []
  | fuel + 1, buf, len, p, pending =>
    if p < len then
      let at_ (k : Nat) : Byte := buf.getD k 0#8
      let synced := at_ (p - 3) == 0xF5#8 && at_ (p - 2) == 0xF5#8 && at_ (p - 1) == 0xF5#8
      if synced && at_ p == 0xFE#8 && decide (p + 4 < len) then
        parseLoop fuel buf len (p + 5) (some ⟨at_ (p + 1), at_ (p + 2), at_ (p + 3), at_ (p + 4)⟩)
      else
        match pending with
        | some id =>
          if synced && (at_ p == 0xFB#8 || at_ p == 0xF8#8) then
            let n := Config.sectorSize id.size
            if p + 1 + n > len then []
            else (id, (buf.drop (p + 1)).take n) :: parseLoop fuel buf len (p + 1 + n) none
          else parseLoop fuel buf len (p + 1) (some id)
        | none => parseLoop fuel buf len (p + 1) none
    else []

/-- `ParseFormat(buf, len)` (R1172). -/
def parseFormat (buf : List Byte) (len : Nat) : List (IdField × List Byte) := parseLoop len buf len 3 none

/-! ### Lazy execution (R1142 to R1148) -/

/-- The scan of `FindSector` (R1145): the first ID that matches the track and sector registers with a good CRC, else whether a matching ID
had a bad one. -/
def scanSector : Nat → Bool → State → (Option IdField × Bool) × State
  | 0, crcSeen, s => ((none, crcSeen), s)
  | fuel + 1, crcSeen, s =>
    let r := diskFindNext s
    match r.1 with
    | none => ((none, crcSeen), r.2)
    | some (id, st) =>
      if id.track = r.2.fdc.track ∧ id.sector = r.2.fdc.sector then
        if st &&& stCrcError = 0#8 then ((some id, crcSeen), r.2) else scanSector fuel true r.2
      else scanSector fuel crcSeen r.2

/-- `FindSector()` (R1145): with no match the command has ended. -/
def findSector (s : State) : Option IdField × State :=
  let i := diskFindInit s
  let r := if i.1 then scanSector (scanBound i.2) false i.2 else ((none, false), i.2)
  match r.1.1 with
  | some id => (some id, r.2)
  | none => (none, endCommand (stRecordNotFound ||| statusBit r.1.2 stCrcError) r.2)

/-- Record the ID field found with its CRC bytes. -/
def setFoundId (id : IdField) (c : Word) (s : State) : State := s.mapFdc fun f => { f with id := foundId id c }

/-- Arm a transfer of `len` bytes: `DRQ` set. -/
def armTransfer (len : Nat) (dataStatus : Byte) (s : State) : State :=
  orStatus stDrq (s.mapFdc fun f => { f with bufLen := len, bufPos := 0, dataStatus := dataStatus })

/-- Fill the buffer and arm its transfer to the CPU. -/
def armRead (bytes : List Byte) (dataStatus : Byte) (s : State) : State :=
  armTransfer bytes.length dataStatus (s.mapFdc fun f => { f with buf := bytes })

/-- `ExecRead()` (R1143). -/
def execRead (s : State) : State :=
  let f := findSector s
  match f.1 with
  | none => f.2
  | some id =>
    let r := diskReadData (setFoundId id (idCrc id) f.2)
    if r.1.2 &&& stRecordNotFound = 0#8 then
      armRead r.1.1 (r.1.2 &&& stCrcError) (orStatus (r.1.2 &&& stDeletedData) r.2)
    else endCommand stRecordNotFound r.2

/-- `ExecWrite()` (R1144). -/
def execWrite (s : State) : State :=
  let f := findSector s
  match f.1 with
  | none => f.2
  | some id => armTransfer (Config.sectorSize id.size) 0#8 (setFoundId id (idCrc id) f.2)

/-- `ExecReadAddress()` (R1146). -/
def execReadAddress (s : State) : State :=
  let i := diskFindInit s
  if i.1 then
    let r := diskFindNext i.2
    match r.1 with
    | none => endCommand stRecordNotFound r.2
    | some (id, st) =>
      let c := if st &&& stCrcError = 0#8 then idCrc id else idCrc id ^^^ 0xFFFF#16
      armRead (foundIdBytes (foundId id c)) (st &&& stCrcError) (setFoundId id c r.2)
  else endCommand stRecordNotFound i.2

/-- The scan of `ExecReadTrack` (R1147): every sector of the track with its data. -/
def scanTrack : Nat → State → List TrackSector × State
  | 0, s => ([], s)
  | fuel + 1, s =>
    let r := diskFindNext s
    match r.1 with
    | none => ([], r.2)
    | some (id, st) =>
      let d := diskReadData r.2
      let rest := scanTrack fuel d.2
      (⟨id, st, d.1.1, d.1.2⟩ :: rest.1, rest.2)

/-- `ExecReadTrack()` (R1147). -/
def execReadTrack (s : State) : State :=
  let i := diskFindInit s
  let r := if i.1 then scanTrack (scanBound i.2) i.2 else ([], i.2)
  armRead (rawTrack r.1) 0#8 r.2

/-- `ExecWriteTrack()` (R1148). -/
def execWriteTrack (s : State) : State := armTransfer Config.trackLen 0#8 s

/-- `ExecuteNext()` (R1142), called with `BUSY` set and `DRQ` clear. -/
def executeNext (s : State) : State :=
  match s.fdc.disk with
  | none => endCommand stRecordNotFound s
  | some _ =>
    let r := diskIsBusy s
    if r.1.1 then r.2
    else if r.1.2 ≠ 0#8 then endCommand r.1.2 r.2
    else
      let s := r.2.mapFdc fun f => { f with state := f.state + 1 }
      if s.fdc.cmd = 0x80#8 ∨ s.fdc.cmd = 0x90#8 then execRead s
      else if s.fdc.cmd = 0xA0#8 ∨ s.fdc.cmd = 0xB0#8 then execWrite s
      else if s.fdc.cmd = 0xC0#8 then execReadAddress s
      else if s.fdc.cmd = 0xE0#8 then execReadTrack s
      else if s.fdc.cmd = 0xF0#8 then execWriteTrack s
      else s

/-! ### Completion and the data register (R1150 to R1152) -/

/-- `fdc.sector <- (fdc.sector + 1) mod 256` and the search for the next sector (R1131, R1133). -/
def nextSector (s : State) : State := executeNext (s.mapFdc fun f => { f with sector := f.sector + 1#8 })

/-- `Flush()` (R1152). -/
def flush (s : State) : Byte × State := diskWriteData (s.fdc.buf.take s.fdc.bufLen) s

/-- `Complete()` (R1152), run with `DRQ` already clear. -/
def complete (s : State) : State :=
  let cmd := s.fdc.cmd
  if cmd = 0x80#8 then endCommand s.fdc.dataStatus s
  else if cmd = 0x90#8 then
    if s.fdc.dataStatus &&& stCrcError = 0#8 then nextSector s else endCommand stCrcError s
  else if cmd = 0xA0#8 then
    let r := flush s
    endCommand r.1 r.2
  else if cmd = 0xB0#8 then
    let r := flush s
    if r.1 = 0#8 then nextSector r.2 else endCommand r.1 r.2
  else if cmd = 0xC0#8 then endCommand s.fdc.dataStatus (s.mapFdc fun f => { f with sector := f.id.id.track })
  else if cmd = 0xE0#8 then endCommand 0#8 s
  else if cmd = 0xF0#8 then
    let r := diskFormatTrack (parseFormat s.fdc.buf s.fdc.bufLen) s
    endCommand r.1 r.2
  else s

/-- One byte has moved: at the last one `DRQ` clears and the command completes. -/
def advanceTransfer (s : State) : State :=
  let s := s.mapFdc fun f => { f with bufPos := f.bufPos + 1 }
  if s.fdc.bufPos = s.fdc.bufLen then complete (setStatus (s.fdc.status &&& ~~~stDrq) s) else s

/-- `FdcDataRead()` (R1150). The byte is the one transferred, whatever completion does. -/
def fdcDataRead (s : State) : Byte × State :=
  if fdcDrq s && !fdcIsWrite s.fdc.cmd then
    let v := s.fdc.buf.getD s.fdc.bufPos 0#8
    (v, advanceTransfer (s.mapFdc fun f => { f with data := v }))
  else (s.fdc.data, s)

/-- Put a byte at a place of the buffer. -/
def putAt : List Byte → Nat → Byte → List Byte
  | [], 0, v => [v]
  | [], k + 1, v => 0#8 :: putAt [] k v
  | _ :: rest, 0, v => v :: rest
  | x :: rest, k + 1, v => x :: putAt rest k v

/-- `FdcDataWrite(v)` (R1151). -/
def fdcDataWrite (v : Byte) (s : State) : State :=
  let s := s.mapFdc fun f => { f with data := v }
  if fdcDrq s && fdcIsWrite s.fdc.cmd then advanceTransfer (s.mapFdc fun f => { f with buf := putAt f.buf f.bufPos v }) else s

/-! ### The status register (R1140, R1141) -/

/-- `IndexPulse()` (R1141). -/
def indexPulse (s : State) : Bool × State :=
  if !fdcMotorOn s || s.fdc.disk.isNone then (false, s)
  else
    let n := s.fdc.idxCount + 1
    let s := s.mapFdc fun f => { f with idxCount := n }
    match Config.indexMode with
    | .pulse => (decide (n % Config.indexPeriod = 0), s)
    | .toggle => (decide (n / Config.indexPeriod % 2 = 1), s)

/-- `FdcStatusRead()` (R1140). -/
def fdcStatusRead (s : State) : Byte × State :=
  let s := if fdcBusy s && !fdcDrq s then executeNext s else s
  if statusIsType1 s.fdc.cmd then
    let p := indexPulse s
    (s.fdc.status ||| statusBit (s.fdc.head == 0) stTrack00 ||| statusBit p.1 stIndex, p.2)
  else (s.fdc.status, s)

/-! ### Command writes (R1115, R1116, R1138) -/

/-- What every accepted command write does first (R1115): keep `MOTOR_ON` alone, latch the command, drop any transfer. -/
def acceptCommand (code : Byte) (side : Bool) (flags : BitVec 4) (s : State) : State :=
  s.mapFdc fun f =>
    { f with
      status := f.status &&& stMotorOn
      cmd := code
      flags := flags
      side := side
      state := 0
      bufPos := 0
      bufLen := 0
      dataStatus := 0 }

/-- A command write (R1115): ignored while the controller is busy, unless it is FORCE_INTERRUPT; else the common part, then the
command's own effect. -/
def fdcCommand (code : Byte) (side : Bool) (flags : BitVec 4) (effect : State → State) (s : State) : State :=
  if fdcBusy s && code != 0xD0#8 then s else effect (acceptCommand code side flags s)

/-- `EngageMotor()` (R1116). -/
def engageMotor (s : State) : State := orStatus stMotorOn (s.mapFdc fun f => { f with motorFrames := Config.motorActiveFrames })

/-- `StartBusyCommand()` (R1138), after the motor is engaged (R1115). -/
def startBusyCommand (s : State) : State :=
  let s := engageMotor s
  let p := if fdcIsWrite s.fdc.cmd then diskIsReadOnly s else (false, s)
  if p.1 then orStatus stWriteProtect p.2 else diskLoadTrack (orStatus stBusy p.2)

/-- One step of the head in the direction of `dir_in` (R1128 `StepHead`). -/
def stepHead (update : Bool) (s : State) : State :=
  s.mapFdc fun f =>
    if f.dirIn then
      { f with head := min Config.headMax (f.head + 1), track := if update then f.track + 1#8 else f.track }
    else { f with head := f.head - 1, track := if update then f.track - 1#8 else f.track }

/-- Set the direction of the next step. -/
def setDirIn (b : Bool) (s : State) : State := s.mapFdc fun f => { f with dirIn := b }

/-- RESTORE's effect (R1120). -/
def restoreHead (s : State) : State := s.mapFdc fun f => { f with head := 0, track := 0, dirIn := false }

/-- SEEK's effect (R1121): the head moves by the difference of the data and track registers. -/
def seekHead (s : State) : State :=
  s.mapFdc fun f =>
    if f.track < f.data then
      { f with dirIn := true, head := min Config.headMax (f.head + (f.data.toNat - f.track.toNat)), track := f.data }
    else if f.data < f.track then
      { f with dirIn := false, head := f.head - (f.track.toNat - f.data.toNat), track := f.data }
    else f

/-- RESTORE (R1120). -/
def fdcRestore (side : Bool) (flags : BitVec 4) : State → State := fdcCommand 0x00#8 side flags fun s => restoreHead (engageMotor s)
/-- SEEK (R1121). -/
def fdcSeek (side : Bool) (flags : BitVec 4) : State → State := fdcCommand 0x10#8 side flags fun s => seekHead (engageMotor s)
/-- STEP without update (R1122). -/
def fdcStep (side : Bool) (flags : BitVec 4) : State → State := fdcCommand 0x20#8 side flags fun s => stepHead false (engageMotor s)
/-- STEP with update (R1123). -/
def fdcStepUpdate (side : Bool) (flags : BitVec 4) : State → State :=
  fdcCommand 0x30#8 side flags fun s => stepHead true (engageMotor s)
/-- STEP_IN without update (R1124). -/
def fdcStepIn (side : Bool) (flags : BitVec 4) : State → State :=
  fdcCommand 0x40#8 side flags fun s => stepHead false (setDirIn true (engageMotor s))
/-- STEP_IN with update (R1125). -/
def fdcStepInUpdate (side : Bool) (flags : BitVec 4) : State → State :=
  fdcCommand 0x50#8 side flags fun s => stepHead true (setDirIn true (engageMotor s))
/-- STEP_OUT without update (R1126). -/
def fdcStepOut (side : Bool) (flags : BitVec 4) : State → State :=
  fdcCommand 0x60#8 side flags fun s => stepHead false (setDirIn false (engageMotor s))
/-- STEP_OUT with update (R1127). -/
def fdcStepOutUpdate (side : Bool) (flags : BitVec 4) : State → State :=
  fdcCommand 0x70#8 side flags fun s => stepHead true (setDirIn false (engageMotor s))
/-- READ_1SECTOR (R1130). -/
def fdcReadSector (side : Bool) (flags : BitVec 4) : State → State := fdcCommand 0x80#8 side flags startBusyCommand
/-- READ_MSECTOR (R1131). -/
def fdcReadSectors (side : Bool) (flags : BitVec 4) : State → State := fdcCommand 0x90#8 side flags startBusyCommand
/-- WRITE_1SECTOR (R1132). -/
def fdcWriteSector (side : Bool) (flags : BitVec 4) : State → State := fdcCommand 0xA0#8 side flags startBusyCommand
/-- WRITE_MSECTOR (R1133). -/
def fdcWriteSectors (side : Bool) (flags : BitVec 4) : State → State := fdcCommand 0xB0#8 side flags startBusyCommand
/-- READ_ADDRESS (R1134). -/
def fdcReadAddress (side : Bool) (flags : BitVec 4) : State → State := fdcCommand 0xC0#8 side flags startBusyCommand
/-- FORCE_INTERRUPT (R1135): the common part is its whole effect. -/
def fdcForceInterrupt (side : Bool) (flags : BitVec 4) : State → State := fdcCommand 0xD0#8 side flags id
/-- READ_TRACK (R1136). -/
def fdcReadTrack (side : Bool) (flags : BitVec 4) : State → State := fdcCommand 0xE0#8 side flags startBusyCommand
/-- WRITE_TRACK (R1137). -/
def fdcWriteTrack (side : Bool) (flags : BitVec 4) : State → State := fdcCommand 0xF0#8 side flags startBusyCommand

/-- `FdcCommandWrite(v, sel_side)` (R1111, R1112, R1115). -/
def fdcCommandWrite (side : Bool) (v : Byte) (s : State) : State :=
  let flags : BitVec 4 := v.extractLsb' 0 4
  match v.toNat / 16 with
  | 0 => fdcRestore side flags s
  | 1 => fdcSeek side flags s
  | 2 => fdcStep side flags s
  | 3 => fdcStepUpdate side flags s
  | 4 => fdcStepIn side flags s
  | 5 => fdcStepInUpdate side flags s
  | 6 => fdcStepOut side flags s
  | 7 => fdcStepOutUpdate side flags s
  | 8 => fdcReadSector side flags s
  | 9 => fdcReadSectors side flags s
  | 10 => fdcWriteSector side flags s
  | 11 => fdcWriteSectors side flags s
  | 12 => fdcReadAddress side flags s
  | 13 => fdcForceInterrupt side flags s
  | 14 => fdcReadTrack side flags s
  | _ => fdcWriteTrack side flags s

/-! ### Ports (R1100 to R1103) and the frame tick (R1180) -/

/-- `reg = port[1:0]` (R1100). -/
def fdcReg (port : Word) : Nat := port.toNat % 4

/-- `sel_side = port[2]` (R1100). -/
def fdcSelSide (port : Word) : Bool := port.getLsbD 2

/-- `FdcIn(port)` (R1102). -/
def fdcIn (port : Word) (s : State) : Byte × State :=
  match fdcReg port with
  | 0 => fdcStatusRead s
  | 1 => (s.fdc.track, s)
  | 2 => (s.fdc.sector, s)
  | _ => fdcDataRead s

/-- `FdcOut(port, v)` (R1103). -/
def fdcOut (port : Word) (v : Byte) (s : State) : State :=
  match fdcReg port with
  | 0 => fdcCommandWrite (fdcSelSide port) v s
  | 1 => s.mapFdc fun f => { f with track := v }
  | 2 => s.mapFdc fun f => { f with sector := v }
  | _ => fdcDataWrite v s

/-- `FdcFrameTick()` (R1180). -/
def fdcFrameTick (s : State) : State :=
  if s.fdc.motorFrames = 0 then s
  else
    let s := s.mapFdc fun f => { f with motorFrames := f.motorFrames - 1 }
    if s.fdc.motorFrames = 0 then
      let s := setStatus (s.fdc.status &&& ~~~stMotorOn) s
      match s.fdc.disk with
      | some d => if Disk.physical d then diskClose s else s
      | none => s
    else s

end Sys2Proof.Machine
end

