-- ==== Sys2Proof/Machine/FdcCommands.lean ====
section
/-! DEFINITION. The sixteen commands of the floppy disk controller as instructions (62_fdc.md R1120 to R1137): the effect of writing the command
byte at a port that names `side`. -/

namespace Sys2Proof.Machine

/-- RESTORE. 62_fdc.md R1120. -/
def execFdcRestore (side : Bool) (flags : BitVec 4) (s : State) : Result := .next (fdcRestore side flags s)

/-- SEEK. 62_fdc.md R1121. -/
def execFdcSeek (side : Bool) (flags : BitVec 4) (s : State) : Result := .next (fdcSeek side flags s)

/-- STEP. 62_fdc.md R1122. -/
def execFdcStep (side : Bool) (flags : BitVec 4) (s : State) : Result := .next (fdcStep side flags s)

/-- STEP with update. 62_fdc.md R1123. -/
def execFdcStepUpdate (side : Bool) (flags : BitVec 4) (s : State) : Result := .next (fdcStepUpdate side flags s)

/-- STEP_IN. 62_fdc.md R1124. -/
def execFdcStepIn (side : Bool) (flags : BitVec 4) (s : State) : Result := .next (fdcStepIn side flags s)

/-- STEP_IN with update. 62_fdc.md R1125. -/
def execFdcStepInUpdate (side : Bool) (flags : BitVec 4) (s : State) : Result := .next (fdcStepInUpdate side flags s)

/-- STEP_OUT. 62_fdc.md R1126. -/
def execFdcStepOut (side : Bool) (flags : BitVec 4) (s : State) : Result := .next (fdcStepOut side flags s)

/-- STEP_OUT with update. 62_fdc.md R1127. -/
def execFdcStepOutUpdate (side : Bool) (flags : BitVec 4) (s : State) : Result := .next (fdcStepOutUpdate side flags s)

/-- READ_1SECTOR. 62_fdc.md R1130. -/
def execFdcReadSector (side : Bool) (flags : BitVec 4) (s : State) : Result := .next (fdcReadSector side flags s)

/-- READ_MSECTOR. 62_fdc.md R1131. -/
def execFdcReadSectors (side : Bool) (flags : BitVec 4) (s : State) : Result := .next (fdcReadSectors side flags s)

/-- WRITE_1SECTOR. 62_fdc.md R1132. -/
def execFdcWriteSector (side : Bool) (flags : BitVec 4) (s : State) : Result := .next (fdcWriteSector side flags s)

/-- WRITE_MSECTOR. 62_fdc.md R1133. -/
def execFdcWriteSectors (side : Bool) (flags : BitVec 4) (s : State) : Result := .next (fdcWriteSectors side flags s)

/-- READ_ADDRESS. 62_fdc.md R1134. -/
def execFdcReadAddress (side : Bool) (flags : BitVec 4) (s : State) : Result := .next (fdcReadAddress side flags s)

/-- FORCE_INTERRUPT. 62_fdc.md R1135. -/
def execFdcForceInterrupt (side : Bool) (flags : BitVec 4) (s : State) : Result := .next (fdcForceInterrupt side flags s)

/-- READ_TRACK. 62_fdc.md R1136. -/
def execFdcReadTrack (side : Bool) (flags : BitVec 4) (s : State) : Result := .next (fdcReadTrack side flags s)

/-- WRITE_TRACK. 62_fdc.md R1137. -/
def execFdcWriteTrack (side : Bool) (flags : BitVec 4) (s : State) : Result := .next (fdcWriteTrack side flags s)

end Sys2Proof.Machine
end

