-- ==== Sys2Proof/Machine/Events.lean ====
section
/-! DEFINITION. The event queue (61_event_queue.md): its operations, the handlers, what the external side may do (20_memory.md R236,
61_event_queue.md R1035), the end-of-line handler and the event check of every step. -/

namespace Sys2Proof.Machine

/-! ### The queue (R1003 to R1007) -/

/-- Insert before the first entry due strictly later, else at the end (R1004). -/
def insertEvent (e : Event) : List Event → List Event
  | [] => [e]
  | h :: t => if e.due < h.due then e :: h :: t else h :: insertEvent e t

/-- `AddEvent(kind, due_time)` (R1004). -/
def addEvent (k : EventKind) (due : Nat) (s : State) : State :=
  if Config.eventCapacity ≤ s.events.length then s.raise .queueExhausted else s.setEvents (insertEvent ⟨k, due⟩ s.events)

/-- `CancelEvent(kind)` (R1005). -/
def cancelEvent (k : EventKind) (s : State) : State := s.setEvents (s.events.filter fun e => e.kind ≠ k)

/-- The current absolute time, with the cycles of the step in progress (R1007, 20_memory.md R207). -/
def absTime (s : State) : Nat := s.clock.cycleCounter + (s.clock.lineCycle - s.clock.lineCycleMark)

/-- `GetEventTime(kind)` (R1007). -/
def getEventTime (k : EventKind) (s : State) : Nat :=
  match s.events.find? fun e => e.kind = k with
  | some e => e.due - absTime s
  | none => 0

/-! ### Interrupt status (10_state.md R130) -/

/-- The `LINE` bit. -/
def intLine : Byte := 0x01#8
/-- The `MOUSE` bit. -/
def intMouse : Byte := 0x02#8
/-- The `MIDIIN` bit. -/
def intMidiIn : Byte := 0x04#8
/-- The `FRAME` bit. -/
def intFrame : Byte := 0x08#8
/-- The `MIDIOUT` bit. -/
def intMidiOut : Byte := 0x10#8
/-- `INT_MASK`. -/
def intMask : Byte := 0x1F#8

/-- Set (true) or clear (false) one source bit of `int_status`. A clear bit is an active request. -/
def setIntBit (mask : Byte) (level : Bool) (s : State) : State :=
  s.mapSig fun g => { g with intStatus := if level then g.intStatus ||| mask else g.intStatus &&& ~~~mask }

/-! ### What the external side may do (20_memory.md R236, 61_event_queue.md R1035) -/

/-- One action of the external dispatcher. -/
def extAct (x : ExtAction) (s : State) : State :=
  match x with
  | .addEvent k due => addEvent k due s
  | .cancelEvent k => cancelEvent k s
  | .setMouse level => setIntBit intMouse level s
  | .setMidiIn level => setIntBit intMidiIn level s
  | .setPages regions => s.mapPaging fun p => { p with pageRegions := regions }
  | .setReadOnly ranges => s.mapPaging fun p => { p with readOnly := ranges }
  | .mapByte addr value => s.pokeByte addr value

/-- Its actions in order, until one raises the fault. -/
def runExt (acts : List ExtAction) (s : State) : State := acts.foldl (fun s x => unlessFault s (extAct x)) s

/-- Whether an action adds an entry that is already due. -/
def addsDue (now : Nat) : ExtAction → Bool
  | .addEvent _ due => decide (due ≤ now)
  | _ => false

/-- The actions of an external event in order, until one raises the fault. An entry already due is added only while `budget` lasts:
R1035 forbids such entries "without bound". Answers the state and the budget left. -/
def runExtBudget (now : Nat) : Nat → List ExtAction → State → State × Nat
  | budget, [], s => (s, budget)
  | budget, x :: more, s =>
    match s.fault with
    | some _ => (s, budget)
    | none =>
      if addsDue now x then
        match budget with
        | 0 => runExtBudget now 0 more s
        | left + 1 => runExtBudget now left more (extAct x s)
      else runExtBudget now budget more (extAct x s)

/-- `ExtEvent(kind, t)` (R1035): free actions, log entry 8. -/
def extEvent (k : EventKind) (t now budget : Nat) (s : State) : State × Nat :=
  runExtBudget now budget (Config.extEventActions s.draws k t) s.nextDraw

/-! ### The handlers (R1020 to R1034) -/

/-- `Dispatch(kind, t)` for an entry just taken off the queue. Answers the state and the budget left. -/
def dispatch (e : Event) (now budget : Nat) (s : State) : State × Nat :=
  match e.kind with
  | .frameIntStart =>
    (unlessFault (addEvent .frameIntEnd (e.due + Config.intActiveCycles) (setIntBit intFrame false s))
      (addEvent .frameIntStart (e.due + Config.cyclesPerFrame)), budget)
  | .frameIntEnd => (setIntBit intFrame true s, budget)
  | .lineIntStart =>
    (unlessFault (addEvent .lineIntEnd (e.due + Config.intActiveCycles) (setIntBit intLine false s))
      (addEvent .lineIntStart (e.due + Config.cyclesPerFrame)), budget)
  | .lineIntEnd => (setIntBit intLine true s, budget)
  | .midiOutStart => (setIntBit intMidiOut false s, budget)
  | .midiOutEnd => (setIntBit intMidiOut true s, budget)
  | .midiTxfmstEnd => extEvent .midiTxfmstEnd e.due now budget s
  | .mouseReset => extEvent .mouseReset e.due now budget s
  | .extClockTick => extEvent .extClockTick e.due now budget s
  | .tapeEdge => extEvent .tapeEdge e.due now budget s
  | .asicReady => (s.mapSig fun g => { g with asicAsleep := false }, budget)
  | .inputUpdate =>
    let r := extEvent .inputUpdate e.due now budget s
    (unlessFault r.1 (addEvent .inputUpdate (e.due + Config.cyclesPerFrame)), r.2)

/-! ### CheckEvents (R1006) -/

/-- The drain, at most `fuel` entries of it. -/
def drainEvents : Nat → Nat → Nat → State → State
  | 0, _, _, s => s
  | fuel + 1, now, budget, s =>
    match s.events with
    | [] => s
    | e :: rest =>
      if e.due ≤ now then
        let r := dispatch e now budget (s.setEvents rest)
        match r.1.fault with
        | some _ => r.1
        | none => drainEvents fuel now r.2 r.1
      else s

/-- Whether a kind's handler adds its own successor one frame later (R1020, R1022, R1034). -/
def periodic : EventKind → Bool
  | .frameIntStart | .lineIntStart | .inputUpdate => true
  | _ => false

/-- How many dispatches an entry can lead to by time `now`: itself, and for a periodic kind one more and one end event a frame. -/
def eventWeight (now : Nat) (e : Event) : Nat :=
  if now < e.due then 0
  else if periodic e.kind then 2 * ((now - e.due) / Config.cyclesPerFrame + 1)
  else 1

/-- A number of dispatches by which the drain has ended: what the queue can lead to, and as much again for each already due entry the
external side may add. -/
def drainFuel (now budget : Nat) (q : List Event) : Nat :=
  budget * (2 * (now / Config.cyclesPerFrame + 1)) + (q.map (eventWeight now)).sum

/-- `CheckEvents(current_time)` (R1006), for the bound `budget` on the external side's already due entries. -/
def checkEvents (now budget : Nat) (s : State) : State := drainEvents (drainFuel now budget s.events) now budget s

/-! ### The event check (R1010, R1012) -/

/-- `maybe_contended` of a scanline (10_state.md R128). -/
def lineContended (line : Nat) : Bool :=
  decide (Config.visFirstLine ≤ line) && decide (line ≤ Config.visLastLine) && !Config.borderSuppress

/-- `EndOfLine()` (R1012). -/
def endOfLine (s : State) : State :=
  s.mapClock fun k =>
    { k with
      lineCycle := k.lineCycle - Config.cyclesPerLine
      lineCycleMark := k.lineCycleMark - Config.cyclesPerLine
      line := k.line + 1
      maybeContended := lineContended (k.line + 1)
      frameEnd := k.frameEnd || decide (Config.linesPerFrame ≤ k.line + 1) }

/-- `EndOfLine()` that many times. -/
def endLines : Nat → State → State
  | 0, s => s
  | n + 1, s => endLines n (endOfLine s)

/-- Bring `cycle_counter` up to date (R1010 (1) and (2)). -/
def syncCounter (s : State) : State :=
  s.mapClock fun k => { k with cycleCounter := k.cycleCounter + (k.lineCycle - k.lineCycleMark), lineCycleMark := k.lineCycle }

/-- `EventCheck()` (R1010): the loop of (3) ends a line for each whole `CYCLES_PER_LINE` in `line_cycle`. -/
def eventCheck (s : State) : State :=
  let s := syncCounter s
  let s := endLines (s.clock.lineCycle / Config.cyclesPerLine) s
  checkEvents s.clock.cycleCounter (Config.extEventBudget s.draws) s

end Sys2Proof.Machine
end

