-- ==== Sys2Proof/Machine/Ports.lean ====
section
/-! DEFINITION. The timed port accesses (20_memory.md R230 to R236): the charge, the split between the controller and the external
dispatcher, and the external dispatcher's free answers. -/

namespace Sys2Proof.Machine

/-- `IsFdcPort(port)` (R233). -/
def isFdcPort (port : Word) : Bool := loByte port &&& Config.fdcPortMask == Config.fdcPortBase

/-- The line-cycle counter after one port access (R232). -/
def portChargedCycle (port : Word) (s : State) : Nat :=
  let lc := s.clock.lineCycle + Config.portCost
  if Config.asicPortBase ≤ loByte port then roundUp lc Config.asicAlign else lc

/-- `PortCharge(port)` (R232). -/
def portCharge (port : Word) (s : State) : State := s.mapClock fun k => { k with lineCycle := portChargedCycle port s }

/-- `ExtIn(port)` (R236): a free byte and free actions, log entry 7. -/
def extIn (port : Word) (s : State) : Byte × State :=
  (Config.extPortByte s.draws port, runExt (Config.extReadActions s.draws port) s.nextDraw)

/-- `ExtOut(port, v)` (R236): free actions, log entry 7. -/
def extOut (port : Word) (v : Byte) (s : State) : State := runExt (Config.extWriteActions s.draws port v) s.nextDraw

/-- `PortRead(port)` (R230). -/
def portRead (port : Word) (s : State) : Byte × State :=
  let s := portCharge port s
  if isFdcPort port then fdcIn port s else extIn port s

/-- `PortWrite(port, v)` (R231). -/
def portWrite (port : Word) (v : Byte) (s : State) : State :=
  let s := portCharge port s
  if isFdcPort port then fdcOut port v s else extOut port v s

end Sys2Proof.Machine
end

