-- ==== Sys2Proof/Machine/Io.lean ====
section
/-! DEFINITION. Input and output (48_io.md). -/

namespace Sys2Proof.Machine

/-- One iteration of a block input, HL moved by `delta` (R772, R774): the port address uses B before the decrement. -/
def blockIn (delta : Word) (s : State) : State :=
  let p := portRead (getBc s) s
  unlessFault p.2 fun s =>
    let b := s.regs.b - 1#8
    writeFOpen blockIoOpen (blockIoFlags b) (setR .b b (setHl (getHl s + delta) (memWriteByte (getHl s) p.1 s)))

/-- One iteration of a block output, HL moved by `delta` (R778, R780): the port address uses B after the decrement. -/
def blockOut (delta : Word) (s : State) : State :=
  let m := memReadByte (getHl s) s
  let s := setR .b (s.regs.b - 1#8) m.2
  unlessFault (portWrite (getBc s) m.1 s) fun s =>
    writeFOpen blockIoOpen (blockIoFlags s.regs.b) (setHl (getHl s + delta) s)

/-- The end of an iteration of INIR, INDR, OTIR or OTDR (R773): run again while B is not 0. -/
def repeatIo (s : State) : State := if s.regs.b = 0#8 then spend 16 4 s else spend 21 4 (repeatInstr s)

/-- OUT (n),A. 48_io.md R776. -/
def execOutNA (n : Byte) (s : State) : Result :=
  .next (unlessFault (portWrite (.ofBytes s.regs.a n) s.regs.a s) (spend 11 3))

/-- IN A,(n). 48_io.md R770. -/
def execInAN (n : Byte) (s : State) : Result :=
  let p := portRead (.ofBytes s.regs.a n) s
  .next (unlessFault p.2 fun s => spend 11 3 (setR .a p.1 s))

/-- IN r,(C). 48_io.md R771. -/
def execInRC (r : Reg8) (s : State) : Result :=
  let p := portRead (getBc s) s
  .next (unlessFault p.2 fun s => spend 12 3 (writeF (valueFlags p.1 s.regs.f) (setR r p.1 s)))

/-- OUT (C),r. 48_io.md R777. -/
def execOutCR (r : Reg8) (s : State) : Result :=
  .next (unlessFault (portWrite (getBc s) (getR r s) s) (spend 12 3))

/-- INI. 48_io.md R772. -/
def execIni (s : State) : Result := .next (unlessFault (blockIn 1#16 s) (spend 16 4))

/-- OUTI. 48_io.md R778. -/
def execOuti (s : State) : Result := .next (unlessFault (blockOut 1#16 s) (spend 16 4))

/-- IND. 48_io.md R774. -/
def execInd (s : State) : Result := .next (unlessFault (blockIn 0xFFFF#16 s) (spend 16 4))

/-- OUTD. 48_io.md R780. -/
def execOutd (s : State) : Result := .next (unlessFault (blockOut 0xFFFF#16 s) (spend 16 4))

/-- INIR. 48_io.md R773. -/
def execInir (s : State) : Result := .next (unlessFault (blockIn 1#16 s) repeatIo)

/-- OTIR. 48_io.md R779. -/
def execOtir (s : State) : Result := .next (unlessFault (blockOut 1#16 s) repeatIo)

/-- INDR. 48_io.md R775. -/
def execIndr (s : State) : Result := .next (unlessFault (blockIn 0xFFFF#16 s) repeatIo)

/-- OTDR. 48_io.md R781. -/
def execOtdr (s : State) : Result := .next (unlessFault (blockOut 0xFFFF#16 s) repeatIo)

end Sys2Proof.Machine
end

