-- ==== Sys2Proof/Machine/Jump.lean ====
section
/-! DEFINITION. Jumps, calls and returns (47_jump_call_return.md). -/

namespace Sys2Proof.Machine

/-- DJNZ e. 47_jump_call_return.md R730. -/
def execDjnz (e : Byte) (s : State) : Result :=
  let s := setR .b (s.regs.b - 1#8) s
  .next (if s.regs.b = 0#8 then spend 8 2 s else spend 13 2 (jumpRelative e s))

/-- JR e. 47_jump_call_return.md R722. -/
def execJr (e : Byte) (s : State) : Result := .next (spend 12 2 (jumpRelative e s))

/-- JR NZ,e. 47_jump_call_return.md R726. -/
def execJrNz (e : Byte) (s : State) : Result :=
  .next (if condHolds .nz s then spend 12 2 (jumpRelative e s) else spend 7 2 s)

/-- JR Z,e. 47_jump_call_return.md R725. -/
def execJrZ (e : Byte) (s : State) : Result :=
  .next (if condHolds .z s then spend 12 2 (jumpRelative e s) else spend 7 2 s)

/-- JR NC,e. 47_jump_call_return.md R724. -/
def execJrNc (e : Byte) (s : State) : Result :=
  .next (if condHolds .nc s then spend 12 2 (jumpRelative e s) else spend 7 2 s)

/-- JR C,e. 47_jump_call_return.md R723. -/
def execJrC (e : Byte) (s : State) : Result :=
  .next (if condHolds .c s then spend 12 2 (jumpRelative e s) else spend 7 2 s)

/-- RET cc. 47_jump_call_return.md R738. -/
def execRetCc (cc : Cond) (s : State) : Result :=
  .next (if condHolds cc s then spend 11 3 (popTo setPc s) else spend 5 1 s)

/-- JP cc,nn. 47_jump_call_return.md R721. -/
def execJpCcNn (cc : Cond) (nn : Word) (s : State) : Result :=
  .next (spend 10 3 (if condHolds cc s then setPc nn s else s))

/-- JP nn. 47_jump_call_return.md R720. -/
def execJpNn (nn : Word) (s : State) : Result := .next (spend 10 3 (setPc nn s))

/-- CALL cc,nn. 47_jump_call_return.md R736. -/
def execCallCcNn (cc : Cond) (nn : Word) (s : State) : Result :=
  .next (if condHolds cc s then spend 17 5 (call nn s) else spend 10 3 s)

/-- RST p. 47_jump_call_return.md R741. -/
def execRst (t : BitVec 3) (s : State) : Result := .next (spend 11 3 (call (t.setWidth 16 <<< 3) s))

/-- CALL nn. 47_jump_call_return.md R735. -/
def execCallNn (nn : Word) (s : State) : Result := .next (spend 17 5 (call nn s))

/-- RET. 47_jump_call_return.md R737. -/
def execRet (s : State) : Result := .next (spend 10 3 (popTo setPc s))

/-- JP (HL). 47_jump_call_return.md R727. -/
def execJpHl (s : State) : Result := .next (spend 4 1 (setPc (getHl s) s))

/-- RETN. 47_jump_call_return.md R740. -/
def execRetn (s : State) : Result := .next (spend 14 4 (returnFromInterrupt s))

/-- RETI. 47_jump_call_return.md R739. -/
def execReti (s : State) : Result := .next (spend 14 4 (returnFromInterrupt s))

/-- JP (IX). 47_jump_call_return.md R728. -/
def execJpIx (s : State) : Result := .next (spend 8 2 (setPc s.regs.ix s))

/-- JP (IY). 47_jump_call_return.md R729. -/
def execJpIy (s : State) : Result := .next (spend 8 2 (setPc s.regs.iy s))

end Sys2Proof.Machine
end

