-- ==== Sys2Proof/Machine/Load16.lean ====
section
/-! DEFINITION. The 16-bit load group, PUSH and POP (41_load16_stack.md). -/

namespace Sys2Proof.Machine

/-- LD dd,nn. 41_load16_stack.md R451. -/
def execLdDdNn (dd : RP) (nn : Word) (s : State) : Result := .next (spend 10 3 (setRp dd nn s))

/-- LD (nn),HL. 41_load16_stack.md R458. -/
def execLdAtNnHl (nn : Word) (s : State) : Result := .next (spend 16 5 (memWriteWord nn (getHl s) s))

/-- LD HL,(nn). 41_load16_stack.md R454. -/
def execLdHlAtNn (nn : Word) (s : State) : Result := .next (spend 16 5 (loadWord nn setHl s))

/-- POP qq. 41_load16_stack.md R468. -/
def execPopQq (qq : RP2) (s : State) : Result := .next (spend 10 3 (popTo (setRp2 qq) s))

/-- PUSH qq. 41_load16_stack.md R465. -/
def execPushQq (qq : RP2) (s : State) : Result := .next (spend 11 3 (push16 (getRp2 qq s) s))

/-- LD (nn),dd. 41_load16_stack.md R459. -/
def execLdAtNnDd (dd : RP) (nn : Word) (s : State) : Result := .next (spend 20 6 (memWriteWord nn (getRp dd s) s))

/-- LD dd,(nn). 41_load16_stack.md R455. -/
def execLdDdAtNn (dd : RP) (nn : Word) (s : State) : Result := .next (spend 20 6 (loadWord nn (setRp dd) s))

/-- LD IX,nn. 41_load16_stack.md R452. -/
def execLdIxNn (nn : Word) (s : State) : Result := .next (spend 14 4 (setIx nn s))

/-- LD (nn),IX. 41_load16_stack.md R460. -/
def execLdAtNnIx (nn : Word) (s : State) : Result := .next (spend 20 6 (memWriteWord nn s.regs.ix s))

/-- LD IX,(nn). 41_load16_stack.md R456. -/
def execLdIxAtNn (nn : Word) (s : State) : Result := .next (spend 20 6 (loadWord nn setIx s))

/-- LD IY,nn. 41_load16_stack.md R453. -/
def execLdIyNn (nn : Word) (s : State) : Result := .next (spend 14 4 (setIy nn s))

/-- LD (nn),IY. 41_load16_stack.md R461. -/
def execLdAtNnIy (nn : Word) (s : State) : Result := .next (spend 20 6 (memWriteWord nn s.regs.iy s))

/-- LD IY,(nn). 41_load16_stack.md R457. -/
def execLdIyAtNn (nn : Word) (s : State) : Result := .next (spend 20 6 (loadWord nn setIy s))

/-- LD SP,HL. 41_load16_stack.md R462. -/
def execLdSpHl (s : State) : Result := .next (spend 6 1 (setSp (getHl s) s))

/-- POP IX. 41_load16_stack.md R469. -/
def execPopIx (s : State) : Result := .next (spend 14 4 (popTo setIx s))

/-- PUSH IX. 41_load16_stack.md R466. -/
def execPushIx (s : State) : Result := .next (spend 15 4 (push16 s.regs.ix s))

/-- LD SP,IX. 41_load16_stack.md R463. -/
def execLdSpIx (s : State) : Result := .next (spend 10 2 (setSp s.regs.ix s))

/-- POP IY. 41_load16_stack.md R470. -/
def execPopIy (s : State) : Result := .next (spend 14 4 (popTo setIy s))

/-- PUSH IY. 41_load16_stack.md R467. -/
def execPushIy (s : State) : Result := .next (spend 15 4 (push16 s.regs.iy s))

/-- LD SP,IY. 41_load16_stack.md R464. -/
def execLdSpIy (s : State) : Result := .next (spend 10 2 (setSp s.regs.iy s))

end Sys2Proof.Machine
end

