-- ==== Sys2Proof/Machine/Load8.lean ====
section
/-! DEFINITION. The 8-bit load group (40_load8.md). -/

namespace Sys2Proof.Machine

/-- LD r,n. 40_load8.md R402. -/
def execLdRN (r : Reg8) (n : Byte) (s : State) : Result := .next (spend 7 2 (setR r n s))

/-- LD (nn),A. 40_load8.md R417. -/
def execLdAtNnA (nn : Word) (s : State) : Result := .next (spend 13 4 (memWriteByte nn s.regs.a s))

/-- LD (HL),n. 40_load8.md R409. -/
def execLdAtHlN (n : Byte) (s : State) : Result := .next (spend 10 3 (memWriteByte (getHl s) n s))

/-- LD A,(nn). 40_load8.md R414. -/
def execLdAAtNn (nn : Word) (s : State) : Result := .next (spend 13 4 (loadR .a nn s))

/-- LD r,r'. 40_load8.md R401. -/
def execLdRR (r : Reg8) (src : Reg8) (s : State) : Result := .next (spend 4 1 (setR r (getR src s) s))

/-- LD r,(HL). 40_load8.md R403. -/
def execLdRAtHl (r : Reg8) (s : State) : Result := .next (spend 7 2 (loadR r (getHl s) s))

/-- LD (HL),r. 40_load8.md R406. -/
def execLdAtHlR (src : Reg8) (s : State) : Result := .next (spend 7 2 (memWriteByte (getHl s) (getR src s) s))

/-- LD (IX+d),n. 40_load8.md R410. -/
def execLdAtIxN (d : Byte) (n : Byte) (s : State) : Result := .next (spend 19 5 (memWriteByte (ea .ix d s) n s))

/-- LD r,(IX+d). 40_load8.md R404. -/
def execLdRAtIx (r : Reg8) (d : Byte) (s : State) : Result := .next (spend 19 4 (loadR r (ea .ix d s) s))

/-- LD (IX+d),r. 40_load8.md R407. -/
def execLdAtIxR (src : Reg8) (d : Byte) (s : State) : Result :=
  .next (spend 19 4 (memWriteByte (ea .ix d s) (getR src s) s))

/-- LD (IY+d),n. 40_load8.md R411. -/
def execLdAtIyN (d : Byte) (n : Byte) (s : State) : Result := .next (spend 19 5 (memWriteByte (ea .iy d s) n s))

/-- LD r,(IY+d). 40_load8.md R405. -/
def execLdRAtIy (r : Reg8) (d : Byte) (s : State) : Result := .next (spend 19 4 (loadR r (ea .iy d s) s))

/-- LD (IY+d),r. 40_load8.md R408. -/
def execLdAtIyR (src : Reg8) (d : Byte) (s : State) : Result :=
  .next (spend 19 4 (memWriteByte (ea .iy d s) (getR src s) s))

/-- LD (BC),A. 40_load8.md R415. -/
def execLdAtBcA (s : State) : Result := .next (spend 7 2 (memWriteByte (getBc s) s.regs.a s))

/-- LD A,(BC). 40_load8.md R412. -/
def execLdAAtBc (s : State) : Result := .next (spend 7 2 (loadR .a (getBc s) s))

/-- LD (DE),A. 40_load8.md R416. -/
def execLdAtDeA (s : State) : Result := .next (spend 7 2 (memWriteByte (getDe s) s.regs.a s))

/-- LD A,(DE). 40_load8.md R413. -/
def execLdAAtDe (s : State) : Result := .next (spend 7 2 (loadR .a (getDe s) s))

/-- LD I,A. 40_load8.md R420. -/
def execLdIA (s : State) : Result := .next (spend 9 2 (setI s.regs.a s))

/-- LD R,A. 40_load8.md R421. -/
def execLdRA (s : State) : Result := .next (spend 9 2 (setRefresh s.regs.a s))

/-- LD A,I. 40_load8.md R418. -/
def execLdAI (s : State) : Result :=
  .next (spend 9 2 (writeF (ldAIFlags s.regs.i s.ctl.iff2 s.regs.f) (setR .a s.regs.i s)))

/-- LD A,R. 40_load8.md R419. -/
def execLdAR (s : State) : Result :=
  .next (spend 9 2 (writeF (ldAIFlags s.regs.r s.ctl.iff2 s.regs.f) (setR .a s.regs.r s)))

end Sys2Proof.Machine
end

