-- ==== Sys2Proof/Machine/Rotate.lean ====
section
/-! DEFINITION. Rotates and shifts (46_rotate_shift_bit.md). -/

namespace Sys2Proof.Machine

/-- RLC r. 46_rotate_shift_bit.md R666. -/
def execRlcR (r : Reg8) (s : State) : Result := .next (spend 8 2 (rotR .rlc r s))

/-- RRC r. 46_rotate_shift_bit.md R667. -/
def execRrcR (r : Reg8) (s : State) : Result := .next (spend 8 2 (rotR .rrc r s))

/-- RL r. 46_rotate_shift_bit.md R668. -/
def execRlR (r : Reg8) (s : State) : Result := .next (spend 8 2 (rotR .rl r s))

/-- RR r. 46_rotate_shift_bit.md R669. -/
def execRrR (r : Reg8) (s : State) : Result := .next (spend 8 2 (rotR .rr r s))

/-- SLA r. 46_rotate_shift_bit.md R670. -/
def execSlaR (r : Reg8) (s : State) : Result := .next (spend 8 2 (rotR .sla r s))

/-- SRA r. 46_rotate_shift_bit.md R671. -/
def execSraR (r : Reg8) (s : State) : Result := .next (spend 8 2 (rotR .sra r s))

/-- SRL r. 46_rotate_shift_bit.md R672. -/
def execSrlR (r : Reg8) (s : State) : Result := .next (spend 8 2 (rotR .srl r s))

/-- RLC (IX+d). 46_rotate_shift_bit.md R666. -/
def execRlcAtIx (d : Byte) (s : State) : Result := .next (spend 23 6 ((rotAt .rlc (ea .ix d s) s).2))

/-- RRC (IX+d). 46_rotate_shift_bit.md R667. -/
def execRrcAtIx (d : Byte) (s : State) : Result := .next (spend 23 6 ((rotAt .rrc (ea .ix d s) s).2))

/-- RL (IX+d). 46_rotate_shift_bit.md R668. -/
def execRlAtIx (d : Byte) (s : State) : Result := .next (spend 23 6 ((rotAt .rl (ea .ix d s) s).2))

/-- RR (IX+d). 46_rotate_shift_bit.md R669. -/
def execRrAtIx (d : Byte) (s : State) : Result := .next (spend 23 6 ((rotAt .rr (ea .ix d s) s).2))

/-- SLA (IX+d). 46_rotate_shift_bit.md R670. -/
def execSlaAtIx (d : Byte) (s : State) : Result := .next (spend 23 6 ((rotAt .sla (ea .ix d s) s).2))

/-- SRA (IX+d). 46_rotate_shift_bit.md R671. -/
def execSraAtIx (d : Byte) (s : State) : Result := .next (spend 23 6 ((rotAt .sra (ea .ix d s) s).2))

/-- SRL (IX+d). 46_rotate_shift_bit.md R672. -/
def execSrlAtIx (d : Byte) (s : State) : Result := .next (spend 23 6 ((rotAt .srl (ea .ix d s) s).2))

/-- RLC (IY+d). 46_rotate_shift_bit.md R666. -/
def execRlcAtIy (d : Byte) (s : State) : Result := .next (spend 23 6 ((rotAt .rlc (ea .iy d s) s).2))

/-- RRC (IY+d). 46_rotate_shift_bit.md R667. -/
def execRrcAtIy (d : Byte) (s : State) : Result := .next (spend 23 6 ((rotAt .rrc (ea .iy d s) s).2))

/-- RL (IY+d). 46_rotate_shift_bit.md R668. -/
def execRlAtIy (d : Byte) (s : State) : Result := .next (spend 23 6 ((rotAt .rl (ea .iy d s) s).2))

/-- RR (IY+d). 46_rotate_shift_bit.md R669. -/
def execRrAtIy (d : Byte) (s : State) : Result := .next (spend 23 6 ((rotAt .rr (ea .iy d s) s).2))

/-- SLA (IY+d). 46_rotate_shift_bit.md R670. -/
def execSlaAtIy (d : Byte) (s : State) : Result := .next (spend 23 6 ((rotAt .sla (ea .iy d s) s).2))

/-- SRA (IY+d). 46_rotate_shift_bit.md R671. -/
def execSraAtIy (d : Byte) (s : State) : Result := .next (spend 23 6 ((rotAt .sra (ea .iy d s) s).2))

/-- SRL (IY+d). 46_rotate_shift_bit.md R672. -/
def execSrlAtIy (d : Byte) (s : State) : Result := .next (spend 23 6 ((rotAt .srl (ea .iy d s) s).2))

/-- RLCA. 46_rotate_shift_bit.md R660. -/
def execRlca (s : State) : Result := .next (spend 4 1 (rotAcc .rlc s))

/-- RRCA. 46_rotate_shift_bit.md R662. -/
def execRrca (s : State) : Result := .next (spend 4 1 (rotAcc .rrc s))

/-- RLA. 46_rotate_shift_bit.md R661. -/
def execRla (s : State) : Result := .next (spend 4 1 (rotAcc .rl s))

/-- RRA. 46_rotate_shift_bit.md R663. -/
def execRra (s : State) : Result := .next (spend 4 1 (rotAcc .rr s))

/-- RLC (HL). 46_rotate_shift_bit.md R666. -/
def execRlcAtHl (s : State) : Result := .next (spend 15 4 ((rotAt .rlc (getHl s) s).2))

/-- RRC (HL). 46_rotate_shift_bit.md R667. -/
def execRrcAtHl (s : State) : Result := .next (spend 15 4 ((rotAt .rrc (getHl s) s).2))

/-- RL (HL). 46_rotate_shift_bit.md R668. -/
def execRlAtHl (s : State) : Result := .next (spend 15 4 ((rotAt .rl (getHl s) s).2))

/-- RR (HL). 46_rotate_shift_bit.md R669. -/
def execRrAtHl (s : State) : Result := .next (spend 15 4 ((rotAt .rr (getHl s) s).2))

/-- SLA (HL). 46_rotate_shift_bit.md R670. -/
def execSlaAtHl (s : State) : Result := .next (spend 15 4 ((rotAt .sla (getHl s) s).2))

/-- SRA (HL). 46_rotate_shift_bit.md R671. -/
def execSraAtHl (s : State) : Result := .next (spend 15 4 ((rotAt .sra (getHl s) s).2))

/-- SRL (HL). 46_rotate_shift_bit.md R672. -/
def execSrlAtHl (s : State) : Result := .next (spend 15 4 ((rotAt .srl (getHl s) s).2))

/-- RRD. 46_rotate_shift_bit.md R674. -/
def execRrd (s : State) : Result :=
  let m := memReadByte (getHl s) s
  let v := (s.regs.a &&& 0xF0#8) ||| (m.1 &&& 0x0F#8)
  let s := memWriteByte (getHl s) ((s.regs.a <<< 4) ||| (m.1 >>> 4)) m.2
  .next (spend 18 4 (writeF (valueFlags v s.regs.f) (setR .a v s)))

/-- RLD. 46_rotate_shift_bit.md R673. -/
def execRld (s : State) : Result :=
  let m := memReadByte (getHl s) s
  let v := (s.regs.a &&& 0xF0#8) ||| (m.1 >>> 4)
  let s := memWriteByte (getHl s) ((m.1 <<< 4) ||| (s.regs.a &&& 0x0F#8)) m.2
  .next (spend 18 4 (writeF (valueFlags v s.regs.f) (setR .a v s)))

end Sys2Proof.Machine
end

