-- ==== Sys2Proof/Machine/Undocumented.lean ====
section
/-! DEFINITION. Index halves, prefix bytes, undocumented encodings and the fallback (49_undocumented_and_fallback.md). -/

namespace Sys2Proof.Machine

/-- SLL r, SLL (HL). 49_undocumented_and_fallback.md R814. -/
def execSll (z : BitVec 3) (s : State) : Result :=
  match Config.sllPolicy with
  | .nop2 => .next (spend 8 2 s)
  | .sll => .next (if z = 6#3 then spend 15 4 (rotAt .sll (getHl s) s).2 else spend 8 2 (rotR .sll (.ofCode z.toNat) s))

/-- the ED fallback, NOP. 49_undocumented_and_fallback.md R823. -/
def execEdNop (_op : Byte) (s : State) : Result := .next (spend 8 2 s)

/-- NEG, undocumented mirror. 49_undocumented_and_fallback.md R816. -/
def execNegMirror (_y : BitVec 3) (s : State) : Result :=
  let p := sub8 0#8 s.regs.a false
  .next (spend 8 2 (writeF p.2 (setR .a p.1 s)))

/-- IM 0, undocumented mirror. 49_undocumented_and_fallback.md R818. -/
def execIm0Mirror (_y : BitVec 3) (s : State) : Result := .next (spend 8 2 (setIm .im0 s))

/-- RETN, undocumented mirror. 49_undocumented_and_fallback.md R817. -/
def execRetnMirror (_y : BitVec 3) (s : State) : Result := .next (spend 14 4 (returnFromInterrupt s))

/-- LD (nn),HL, undocumented ED form. 49_undocumented_and_fallback.md R819. -/
def execLdAtNnHlEd (nn : Word) (s : State) : Result := .next (spend 20 6 (memWriteWord nn (getHl s) s))

/-- LD HL,(nn), undocumented ED form. 49_undocumented_and_fallback.md R819. -/
def execLdHlAtNnEd (nn : Word) (s : State) : Result := .next (spend 20 6 (loadWord nn setHl s))

/-- NOP of two bytes, ED 77 and ED 7F. 49_undocumented_and_fallback.md R822. -/
def execNopEd77 (_y : BitVec 3) (s : State) : Result := .next (spend 8 2 s)

/-- LD IXH,n. 49_undocumented_and_fallback.md R811. -/
def execLdIxhN (n : Byte) (s : State) : Result := .next (spend 11 3 (setXh .ix n s))

/-- LD IXL,n. 49_undocumented_and_fallback.md R811. -/
def execLdIxlN (n : Byte) (s : State) : Result := .next (spend 11 3 (setXl .ix n s))

/-- LD r,r' with H, L read as IXH, IXL. 49_undocumented_and_fallback.md R811. -/
def execLdRRIx (r : Reg8) (src : Reg8) (s : State) : Result := .next (spend 8 2 (setRx .ix r (getRx .ix src s) s))

/-- LD IYH,n. 49_undocumented_and_fallback.md R811. -/
def execLdIyhN (n : Byte) (s : State) : Result := .next (spend 11 3 (setXh .iy n s))

/-- LD IYL,n. 49_undocumented_and_fallback.md R811. -/
def execLdIylN (n : Byte) (s : State) : Result := .next (spend 11 3 (setXl .iy n s))

/-- LD r,r' with H, L read as IYH, IYL. 49_undocumented_and_fallback.md R811. -/
def execLdRRIy (r : Reg8) (src : Reg8) (s : State) : Result := .next (spend 8 2 (setRx .iy r (getRx .iy src s) s))

/-- RLC (IX+d),r. 49_undocumented_and_fallback.md R815. -/
def execRlcAtIxR (d : Byte) (r : Reg8) (s : State) : Result := .next (spend 23 6 (rotAtCopy .rlc (ea .ix d s) r s))

/-- RRC (IX+d),r. 49_undocumented_and_fallback.md R815. -/
def execRrcAtIxR (d : Byte) (r : Reg8) (s : State) : Result := .next (spend 23 6 (rotAtCopy .rrc (ea .ix d s) r s))

/-- RL (IX+d),r. 49_undocumented_and_fallback.md R815. -/
def execRlAtIxR (d : Byte) (r : Reg8) (s : State) : Result := .next (spend 23 6 (rotAtCopy .rl (ea .ix d s) r s))

/-- RR (IX+d),r. 49_undocumented_and_fallback.md R815. -/
def execRrAtIxR (d : Byte) (r : Reg8) (s : State) : Result := .next (spend 23 6 (rotAtCopy .rr (ea .ix d s) r s))

/-- SLA (IX+d),r. 49_undocumented_and_fallback.md R815. -/
def execSlaAtIxR (d : Byte) (r : Reg8) (s : State) : Result := .next (spend 23 6 (rotAtCopy .sla (ea .ix d s) r s))

/-- SRA (IX+d),r. 49_undocumented_and_fallback.md R815. -/
def execSraAtIxR (d : Byte) (r : Reg8) (s : State) : Result := .next (spend 23 6 (rotAtCopy .sra (ea .ix d s) r s))

/-- SLL (IX+d), SLL (IX+d),r. 49_undocumented_and_fallback.md R814. -/
def execSllAtIx (d : Byte) (z : BitVec 3) (s : State) : Result :=
  match Config.sllPolicy with
  | .nop2 => .next (spend 16 4 s)
  | .sll =>
    .next (spend 23 6 (if z = 6#3 then (rotAt .sll (ea .ix d s) s).2 else rotAtCopy .sll (ea .ix d s) (.ofCode z.toNat) s))

/-- SRL (IX+d),r. 49_undocumented_and_fallback.md R815. -/
def execSrlAtIxR (d : Byte) (r : Reg8) (s : State) : Result := .next (spend 23 6 (rotAtCopy .srl (ea .ix d s) r s))

/-- BIT b,(IX+d), undocumented mirror. 49_undocumented_and_fallback.md R815. -/
def execBitAtIxMirror (d : Byte) (b : BitVec 3) (_r : Reg8) (s : State) : Result := .next (spend 20 5 (bitAtEa b (ea .ix d s) s))

/-- RES b,(IX+d),r. 49_undocumented_and_fallback.md R815. -/
def execResAtIxR (d : Byte) (b : BitVec 3) (r : Reg8) (s : State) : Result :=
  .next (spend 23 6 (modifyAtCopy (ea .ix d s) (clearBit b) r s))

/-- SET b,(IX+d),r. 49_undocumented_and_fallback.md R815. -/
def execSetAtIxR (d : Byte) (b : BitVec 3) (r : Reg8) (s : State) : Result :=
  .next (spend 23 6 (modifyAtCopy (ea .ix d s) (setBit b) r s))

/-- RLC (IY+d),r. 49_undocumented_and_fallback.md R815. -/
def execRlcAtIyR (d : Byte) (r : Reg8) (s : State) : Result := .next (spend 23 6 (rotAtCopy .rlc (ea .iy d s) r s))

/-- RRC (IY+d),r. 49_undocumented_and_fallback.md R815. -/
def execRrcAtIyR (d : Byte) (r : Reg8) (s : State) : Result := .next (spend 23 6 (rotAtCopy .rrc (ea .iy d s) r s))

/-- RL (IY+d),r. 49_undocumented_and_fallback.md R815. -/
def execRlAtIyR (d : Byte) (r : Reg8) (s : State) : Result := .next (spend 23 6 (rotAtCopy .rl (ea .iy d s) r s))

/-- RR (IY+d),r. 49_undocumented_and_fallback.md R815. -/
def execRrAtIyR (d : Byte) (r : Reg8) (s : State) : Result := .next (spend 23 6 (rotAtCopy .rr (ea .iy d s) r s))

/-- SLA (IY+d),r. 49_undocumented_and_fallback.md R815. -/
def execSlaAtIyR (d : Byte) (r : Reg8) (s : State) : Result := .next (spend 23 6 (rotAtCopy .sla (ea .iy d s) r s))

/-- SRA (IY+d),r. 49_undocumented_and_fallback.md R815. -/
def execSraAtIyR (d : Byte) (r : Reg8) (s : State) : Result := .next (spend 23 6 (rotAtCopy .sra (ea .iy d s) r s))

/-- SLL (IY+d), SLL (IY+d),r. 49_undocumented_and_fallback.md R814. -/
def execSllAtIy (d : Byte) (z : BitVec 3) (s : State) : Result :=
  match Config.sllPolicy with
  | .nop2 => .next (spend 16 4 s)
  | .sll =>
    .next (spend 23 6 (if z = 6#3 then (rotAt .sll (ea .iy d s) s).2 else rotAtCopy .sll (ea .iy d s) (.ofCode z.toNat) s))

/-- SRL (IY+d),r. 49_undocumented_and_fallback.md R815. -/
def execSrlAtIyR (d : Byte) (r : Reg8) (s : State) : Result := .next (spend 23 6 (rotAtCopy .srl (ea .iy d s) r s))

/-- BIT b,(IY+d), undocumented mirror. 49_undocumented_and_fallback.md R815. -/
def execBitAtIyMirror (d : Byte) (b : BitVec 3) (_r : Reg8) (s : State) : Result := .next (spend 20 5 (bitAtEa b (ea .iy d s) s))

/-- RES b,(IY+d),r. 49_undocumented_and_fallback.md R815. -/
def execResAtIyR (d : Byte) (b : BitVec 3) (r : Reg8) (s : State) : Result :=
  .next (spend 23 6 (modifyAtCopy (ea .iy d s) (clearBit b) r s))

/-- SET b,(IY+d),r. 49_undocumented_and_fallback.md R815. -/
def execSetAtIyR (d : Byte) (b : BitVec 3) (r : Reg8) (s : State) : Result :=
  .next (spend 23 6 (modifyAtCopy (ea .iy d s) (setBit b) r s))

/-- the CB prefix byte. 30_encoding.md R323. -/
def execPrefixCb (s : State) : Result := .next (setTable .cb s)

/-- the DD prefix byte. 30_encoding.md R313. -/
def execPrefixDd (s : State) : Result := .next (spend 4 1 (setIdxNext .ix s))

/-- the ED prefix byte. 30_encoding.md R324. -/
def execPrefixEd (s : State) : Result := .next (setTable .ed s)

/-- the FD prefix byte. 30_encoding.md R313. -/
def execPrefixFd (s : State) : Result := .next (spend 4 1 (setIdxNext .iy s))

/-- IN (C), undocumented. 49_undocumented_and_fallback.md R820. -/
def execInFC (s : State) : Result :=
  let p := portRead (getBc s) s
  .next (unlessFault p.2 fun s => spend 12 3 (writeF (valueFlags p.1 s.regs.f) s))

/-- OUT (C),0, undocumented. 49_undocumented_and_fallback.md R821. -/
def execOutC0 (s : State) : Result :=
  .next (unlessFault (portWrite (getBc s) 0x00#8 s) (spend 12 3))

/-- IM 1, undocumented mirror. 49_undocumented_and_fallback.md R818. -/
def execIm1Mirror (s : State) : Result := .next (spend 8 2 (setIm .im1 s))

/-- IM 2, undocumented mirror. 49_undocumented_and_fallback.md R818. -/
def execIm2Mirror (s : State) : Result := .next (spend 8 2 (setIm .im2 s))

/-- INC IXH. 49_undocumented_and_fallback.md R811. -/
def execIncIxh (s : State) : Result := .next (spend 8 2 (incRx .ix .h s))

/-- DEC IXH. 49_undocumented_and_fallback.md R811. -/
def execDecIxh (s : State) : Result := .next (spend 8 2 (decRx .ix .h s))

/-- INC IXL. 49_undocumented_and_fallback.md R811. -/
def execIncIxl (s : State) : Result := .next (spend 8 2 (incRx .ix .l s))

/-- DEC IXL. 49_undocumented_and_fallback.md R811. -/
def execDecIxl (s : State) : Result := .next (spend 8 2 (decRx .ix .l s))

/-- ADD A,IXH. 49_undocumented_and_fallback.md R811. -/
def execAddAIxh (s : State) : Result := .next (spend 8 2 (alu .add (getXh .ix s) s))

/-- ADD A,IXL. 49_undocumented_and_fallback.md R811. -/
def execAddAIxl (s : State) : Result := .next (spend 8 2 (alu .add (getXl .ix s) s))

/-- ADC A,IXH. 49_undocumented_and_fallback.md R811. -/
def execAdcAIxh (s : State) : Result := .next (spend 8 2 (alu .adc (getXh .ix s) s))

/-- ADC A,IXL. 49_undocumented_and_fallback.md R811. -/
def execAdcAIxl (s : State) : Result := .next (spend 8 2 (alu .adc (getXl .ix s) s))

/-- SUB IXH. 49_undocumented_and_fallback.md R811. -/
def execSubIxh (s : State) : Result := .next (spend 8 2 (alu .sub (getXh .ix s) s))

/-- SUB IXL. 49_undocumented_and_fallback.md R811. -/
def execSubIxl (s : State) : Result := .next (spend 8 2 (alu .sub (getXl .ix s) s))

/-- SBC A,IXH. 49_undocumented_and_fallback.md R811. -/
def execSbcAIxh (s : State) : Result := .next (spend 8 2 (alu .sbc (getXh .ix s) s))

/-- SBC A,IXL. 49_undocumented_and_fallback.md R811. -/
def execSbcAIxl (s : State) : Result := .next (spend 8 2 (alu .sbc (getXl .ix s) s))

/-- AND IXH. 49_undocumented_and_fallback.md R811. -/
def execAndIxh (s : State) : Result := .next (spend 8 2 (alu .and (getXh .ix s) s))

/-- AND IXL. 49_undocumented_and_fallback.md R811. -/
def execAndIxl (s : State) : Result := .next (spend 8 2 (alu .and (getXl .ix s) s))

/-- XOR IXH. 49_undocumented_and_fallback.md R811. -/
def execXorIxh (s : State) : Result := .next (spend 8 2 (alu .xor (getXh .ix s) s))

/-- XOR IXL. 49_undocumented_and_fallback.md R811. -/
def execXorIxl (s : State) : Result := .next (spend 8 2 (alu .xor (getXl .ix s) s))

/-- OR IXH. 49_undocumented_and_fallback.md R811. -/
def execOrIxh (s : State) : Result := .next (spend 8 2 (alu .or (getXh .ix s) s))

/-- OR IXL. 49_undocumented_and_fallback.md R811. -/
def execOrIxl (s : State) : Result := .next (spend 8 2 (alu .or (getXl .ix s) s))

/-- CP IXH. 49_undocumented_and_fallback.md R811. -/
def execCpIxh (s : State) : Result := .next (spend 8 2 (alu .cp (getXh .ix s) s))

/-- CP IXL. 49_undocumented_and_fallback.md R811. -/
def execCpIxl (s : State) : Result := .next (spend 8 2 (alu .cp (getXl .ix s) s))

/-- the CB prefix byte under index mode IX. 30_encoding.md R323. -/
def execPrefixDdcb (s : State) : Result := .next (setTable .ddcb s)

/-- the ED prefix byte after an index prefix. 49_undocumented_and_fallback.md R813. -/
def execPrefixEdIdx (s : State) : Result := .next (setTable .ed s)

/-- INC IYH. 49_undocumented_and_fallback.md R811. -/
def execIncIyh (s : State) : Result := .next (spend 8 2 (incRx .iy .h s))

/-- DEC IYH. 49_undocumented_and_fallback.md R811. -/
def execDecIyh (s : State) : Result := .next (spend 8 2 (decRx .iy .h s))

/-- INC IYL. 49_undocumented_and_fallback.md R811. -/
def execIncIyl (s : State) : Result := .next (spend 8 2 (incRx .iy .l s))

/-- DEC IYL. 49_undocumented_and_fallback.md R811. -/
def execDecIyl (s : State) : Result := .next (spend 8 2 (decRx .iy .l s))

/-- ADD A,IYH. 49_undocumented_and_fallback.md R811. -/
def execAddAIyh (s : State) : Result := .next (spend 8 2 (alu .add (getXh .iy s) s))

/-- ADD A,IYL. 49_undocumented_and_fallback.md R811. -/
def execAddAIyl (s : State) : Result := .next (spend 8 2 (alu .add (getXl .iy s) s))

/-- ADC A,IYH. 49_undocumented_and_fallback.md R811. -/
def execAdcAIyh (s : State) : Result := .next (spend 8 2 (alu .adc (getXh .iy s) s))

/-- ADC A,IYL. 49_undocumented_and_fallback.md R811. -/
def execAdcAIyl (s : State) : Result := .next (spend 8 2 (alu .adc (getXl .iy s) s))

/-- SUB IYH. 49_undocumented_and_fallback.md R811. -/
def execSubIyh (s : State) : Result := .next (spend 8 2 (alu .sub (getXh .iy s) s))

/-- SUB IYL. 49_undocumented_and_fallback.md R811. -/
def execSubIyl (s : State) : Result := .next (spend 8 2 (alu .sub (getXl .iy s) s))

/-- SBC A,IYH. 49_undocumented_and_fallback.md R811. -/
def execSbcAIyh (s : State) : Result := .next (spend 8 2 (alu .sbc (getXh .iy s) s))

/-- SBC A,IYL. 49_undocumented_and_fallback.md R811. -/
def execSbcAIyl (s : State) : Result := .next (spend 8 2 (alu .sbc (getXl .iy s) s))

/-- AND IYH. 49_undocumented_and_fallback.md R811. -/
def execAndIyh (s : State) : Result := .next (spend 8 2 (alu .and (getXh .iy s) s))

/-- AND IYL. 49_undocumented_and_fallback.md R811. -/
def execAndIyl (s : State) : Result := .next (spend 8 2 (alu .and (getXl .iy s) s))

/-- XOR IYH. 49_undocumented_and_fallback.md R811. -/
def execXorIyh (s : State) : Result := .next (spend 8 2 (alu .xor (getXh .iy s) s))

/-- XOR IYL. 49_undocumented_and_fallback.md R811. -/
def execXorIyl (s : State) : Result := .next (spend 8 2 (alu .xor (getXl .iy s) s))

/-- OR IYH. 49_undocumented_and_fallback.md R811. -/
def execOrIyh (s : State) : Result := .next (spend 8 2 (alu .or (getXh .iy s) s))

/-- OR IYL. 49_undocumented_and_fallback.md R811. -/
def execOrIyl (s : State) : Result := .next (spend 8 2 (alu .or (getXl .iy s) s))

/-- CP IYH. 49_undocumented_and_fallback.md R811. -/
def execCpIyh (s : State) : Result := .next (spend 8 2 (alu .cp (getXh .iy s) s))

/-- CP IYL. 49_undocumented_and_fallback.md R811. -/
def execCpIyl (s : State) : Result := .next (spend 8 2 (alu .cp (getXl .iy s) s))

/-- the CB prefix byte under index mode IY. 30_encoding.md R323. -/
def execPrefixFdcb (s : State) : Result := .next (setTable .fdcb s)

end Sys2Proof.Machine
end

