-- ==== Sys2Proof/Machine/Dispatch.lean ====
section
/-! DEFINITION. The dispatch: one direct call of a meaning for each constructor of `Instr`. -/

namespace Sys2Proof.Machine

/-- The effect of an instruction whose bytes have been fetched (60_exceptions.md R900 (3)). -/
def exec (i : Instr) (s : State) : Host.Outcome State Fault Refusal :=
  match i with
  | .ldDdNn dd nn => Sys2Proof.Machine.execLdDdNn dd nn s
  | .incSs ss => Sys2Proof.Machine.execIncSs ss s
  | .incR r => Sys2Proof.Machine.execIncR r s
  | .decR r => Sys2Proof.Machine.execDecR r s
  | .ldRN r n => Sys2Proof.Machine.execLdRN r n s
  | .addHlSs ss => Sys2Proof.Machine.execAddHlSs ss s
  | .decSs ss => Sys2Proof.Machine.execDecSs ss s
  | .djnz e => Sys2Proof.Machine.execDjnz e s
  | .jr e => Sys2Proof.Machine.execJr e s
  | .jrNz e => Sys2Proof.Machine.execJrNz e s
  | .ldAtNnHl nn => Sys2Proof.Machine.execLdAtNnHl nn s
  | .jrZ e => Sys2Proof.Machine.execJrZ e s
  | .ldHlAtNn nn => Sys2Proof.Machine.execLdHlAtNn nn s
  | .jrNc e => Sys2Proof.Machine.execJrNc e s
  | .ldAtNnA nn => Sys2Proof.Machine.execLdAtNnA nn s
  | .ldAtHlN n => Sys2Proof.Machine.execLdAtHlN n s
  | .jrC e => Sys2Proof.Machine.execJrC e s
  | .ldAAtNn nn => Sys2Proof.Machine.execLdAAtNn nn s
  | .ldRR r src => Sys2Proof.Machine.execLdRR r src s
  | .ldRAtHl r => Sys2Proof.Machine.execLdRAtHl r s
  | .ldAtHlR src => Sys2Proof.Machine.execLdAtHlR src s
  | .addAR src => Sys2Proof.Machine.execAddAR src s
  | .addAN n => Sys2Proof.Machine.execAddAN n s
  | .adcAR src => Sys2Proof.Machine.execAdcAR src s
  | .adcAN n => Sys2Proof.Machine.execAdcAN n s
  | .subR src => Sys2Proof.Machine.execSubR src s
  | .subN n => Sys2Proof.Machine.execSubN n s
  | .sbcAR src => Sys2Proof.Machine.execSbcAR src s
  | .sbcAN n => Sys2Proof.Machine.execSbcAN n s
  | .andR src => Sys2Proof.Machine.execAndR src s
  | .andN n => Sys2Proof.Machine.execAndN n s
  | .xorR src => Sys2Proof.Machine.execXorR src s
  | .xorN n => Sys2Proof.Machine.execXorN n s
  | .orR src => Sys2Proof.Machine.execOrR src s
  | .orN n => Sys2Proof.Machine.execOrN n s
  | .cpR src => Sys2Proof.Machine.execCpR src s
  | .cpN n => Sys2Proof.Machine.execCpN n s
  | .retCc cc => Sys2Proof.Machine.execRetCc cc s
  | .popQq qq => Sys2Proof.Machine.execPopQq qq s
  | .jpCcNn cc nn => Sys2Proof.Machine.execJpCcNn cc nn s
  | .jpNn nn => Sys2Proof.Machine.execJpNn nn s
  | .callCcNn cc nn => Sys2Proof.Machine.execCallCcNn cc nn s
  | .pushQq qq => Sys2Proof.Machine.execPushQq qq s
  | .rst t => Sys2Proof.Machine.execRst t s
  | .callNn nn => Sys2Proof.Machine.execCallNn nn s
  | .outNA n => Sys2Proof.Machine.execOutNA n s
  | .inAN n => Sys2Proof.Machine.execInAN n s
  | .rlcR r => Sys2Proof.Machine.execRlcR r s
  | .rrcR r => Sys2Proof.Machine.execRrcR r s
  | .rlR r => Sys2Proof.Machine.execRlR r s
  | .rrR r => Sys2Proof.Machine.execRrR r s
  | .slaR r => Sys2Proof.Machine.execSlaR r s
  | .sraR r => Sys2Proof.Machine.execSraR r s
  | .sll z => Sys2Proof.Machine.execSll z s
  | .srlR r => Sys2Proof.Machine.execSrlR r s
  | .bitR b r => Sys2Proof.Machine.execBitR b r s
  | .bitAtHl b => Sys2Proof.Machine.execBitAtHl b s
  | .resR b r => Sys2Proof.Machine.execResR b r s
  | .resAtHl b => Sys2Proof.Machine.execResAtHl b s
  | .setR b r => Sys2Proof.Machine.execSetR b r s
  | .setAtHl b => Sys2Proof.Machine.execSetAtHl b s
  | .edNop op => Sys2Proof.Machine.execEdNop op s
  | .inRC r => Sys2Proof.Machine.execInRC r s
  | .outCR r => Sys2Proof.Machine.execOutCR r s
  | .sbcHlSs ss => Sys2Proof.Machine.execSbcHlSs ss s
  | .ldAtNnDd dd nn => Sys2Proof.Machine.execLdAtNnDd dd nn s
  | .adcHlSs ss => Sys2Proof.Machine.execAdcHlSs ss s
  | .ldDdAtNn dd nn => Sys2Proof.Machine.execLdDdAtNn dd nn s
  | .negMirror y => Sys2Proof.Machine.execNegMirror y s
  | .im0Mirror y => Sys2Proof.Machine.execIm0Mirror y s
  | .retnMirror y => Sys2Proof.Machine.execRetnMirror y s
  | .ldAtNnHlEd nn => Sys2Proof.Machine.execLdAtNnHlEd nn s
  | .ldHlAtNnEd nn => Sys2Proof.Machine.execLdHlAtNnEd nn s
  | .nopEd77 y => Sys2Proof.Machine.execNopEd77 y s
  | .addIxPp pp => Sys2Proof.Machine.execAddIxPp pp s
  | .ldIxNn nn => Sys2Proof.Machine.execLdIxNn nn s
  | .ldAtNnIx nn => Sys2Proof.Machine.execLdAtNnIx nn s
  | .ldIxhN n => Sys2Proof.Machine.execLdIxhN n s
  | .ldIxAtNn nn => Sys2Proof.Machine.execLdIxAtNn nn s
  | .ldIxlN n => Sys2Proof.Machine.execLdIxlN n s
  | .incAtIx d => Sys2Proof.Machine.execIncAtIx d s
  | .decAtIx d => Sys2Proof.Machine.execDecAtIx d s
  | .ldAtIxN d n => Sys2Proof.Machine.execLdAtIxN d n s
  | .ldRRIx r src => Sys2Proof.Machine.execLdRRIx r src s
  | .ldRAtIx r d => Sys2Proof.Machine.execLdRAtIx r d s
  | .ldAtIxR src d => Sys2Proof.Machine.execLdAtIxR src d s
  | .addAAtIx d => Sys2Proof.Machine.execAddAAtIx d s
  | .adcAAtIx d => Sys2Proof.Machine.execAdcAAtIx d s
  | .subAtIx d => Sys2Proof.Machine.execSubAtIx d s
  | .sbcAAtIx d => Sys2Proof.Machine.execSbcAAtIx d s
  | .andAtIx d => Sys2Proof.Machine.execAndAtIx d s
  | .xorAtIx d => Sys2Proof.Machine.execXorAtIx d s
  | .orAtIx d => Sys2Proof.Machine.execOrAtIx d s
  | .cpAtIx d => Sys2Proof.Machine.execCpAtIx d s
  | .addIyRr rr => Sys2Proof.Machine.execAddIyRr rr s
  | .ldIyNn nn => Sys2Proof.Machine.execLdIyNn nn s
  | .ldAtNnIy nn => Sys2Proof.Machine.execLdAtNnIy nn s
  | .ldIyhN n => Sys2Proof.Machine.execLdIyhN n s
  | .ldIyAtNn nn => Sys2Proof.Machine.execLdIyAtNn nn s
  | .ldIylN n => Sys2Proof.Machine.execLdIylN n s
  | .incAtIy d => Sys2Proof.Machine.execIncAtIy d s
  | .decAtIy d => Sys2Proof.Machine.execDecAtIy d s
  | .ldAtIyN d n => Sys2Proof.Machine.execLdAtIyN d n s
  | .ldRRIy r src => Sys2Proof.Machine.execLdRRIy r src s
  | .ldRAtIy r d => Sys2Proof.Machine.execLdRAtIy r d s
  | .ldAtIyR src d => Sys2Proof.Machine.execLdAtIyR src d s
  | .addAAtIy d => Sys2Proof.Machine.execAddAAtIy d s
  | .adcAAtIy d => Sys2Proof.Machine.execAdcAAtIy d s
  | .subAtIy d => Sys2Proof.Machine.execSubAtIy d s
  | .sbcAAtIy d => Sys2Proof.Machine.execSbcAAtIy d s
  | .andAtIy d => Sys2Proof.Machine.execAndAtIy d s
  | .xorAtIy d => Sys2Proof.Machine.execXorAtIy d s
  | .orAtIy d => Sys2Proof.Machine.execOrAtIy d s
  | .cpAtIy d => Sys2Proof.Machine.execCpAtIy d s
  | .rlcAtIxR d r => Sys2Proof.Machine.execRlcAtIxR d r s
  | .rlcAtIx d => Sys2Proof.Machine.execRlcAtIx d s
  | .rrcAtIxR d r => Sys2Proof.Machine.execRrcAtIxR d r s
  | .rrcAtIx d => Sys2Proof.Machine.execRrcAtIx d s
  | .rlAtIxR d r => Sys2Proof.Machine.execRlAtIxR d r s
  | .rlAtIx d => Sys2Proof.Machine.execRlAtIx d s
  | .rrAtIxR d r => Sys2Proof.Machine.execRrAtIxR d r s
  | .rrAtIx d => Sys2Proof.Machine.execRrAtIx d s
  | .slaAtIxR d r => Sys2Proof.Machine.execSlaAtIxR d r s
  | .slaAtIx d => Sys2Proof.Machine.execSlaAtIx d s
  | .sraAtIxR d r => Sys2Proof.Machine.execSraAtIxR d r s
  | .sraAtIx d => Sys2Proof.Machine.execSraAtIx d s
  | .sllAtIx d z => Sys2Proof.Machine.execSllAtIx d z s
  | .srlAtIxR d r => Sys2Proof.Machine.execSrlAtIxR d r s
  | .srlAtIx d => Sys2Proof.Machine.execSrlAtIx d s
  | .bitAtIxMirror d b r => Sys2Proof.Machine.execBitAtIxMirror d b r s
  | .bitAtIx d b => Sys2Proof.Machine.execBitAtIx d b s
  | .resAtIxR d b r => Sys2Proof.Machine.execResAtIxR d b r s
  | .resAtIx d b => Sys2Proof.Machine.execResAtIx d b s
  | .setAtIxR d b r => Sys2Proof.Machine.execSetAtIxR d b r s
  | .setAtIx d b => Sys2Proof.Machine.execSetAtIx d b s
  | .rlcAtIyR d r => Sys2Proof.Machine.execRlcAtIyR d r s
  | .rlcAtIy d => Sys2Proof.Machine.execRlcAtIy d s
  | .rrcAtIyR d r => Sys2Proof.Machine.execRrcAtIyR d r s
  | .rrcAtIy d => Sys2Proof.Machine.execRrcAtIy d s
  | .rlAtIyR d r => Sys2Proof.Machine.execRlAtIyR d r s
  | .rlAtIy d => Sys2Proof.Machine.execRlAtIy d s
  | .rrAtIyR d r => Sys2Proof.Machine.execRrAtIyR d r s
  | .rrAtIy d => Sys2Proof.Machine.execRrAtIy d s
  | .slaAtIyR d r => Sys2Proof.Machine.execSlaAtIyR d r s
  | .slaAtIy d => Sys2Proof.Machine.execSlaAtIy d s
  | .sraAtIyR d r => Sys2Proof.Machine.execSraAtIyR d r s
  | .sraAtIy d => Sys2Proof.Machine.execSraAtIy d s
  | .sllAtIy d z => Sys2Proof.Machine.execSllAtIy d z s
  | .srlAtIyR d r => Sys2Proof.Machine.execSrlAtIyR d r s
  | .srlAtIy d => Sys2Proof.Machine.execSrlAtIy d s
  | .bitAtIyMirror d b r => Sys2Proof.Machine.execBitAtIyMirror d b r s
  | .bitAtIy d b => Sys2Proof.Machine.execBitAtIy d b s
  | .resAtIyR d b r => Sys2Proof.Machine.execResAtIyR d b r s
  | .resAtIy d b => Sys2Proof.Machine.execResAtIy d b s
  | .setAtIyR d b r => Sys2Proof.Machine.execSetAtIyR d b r s
  | .setAtIy d b => Sys2Proof.Machine.execSetAtIy d b s
  | .fdcRestore side flags => Sys2Proof.Machine.execFdcRestore side flags s
  | .fdcSeek side flags => Sys2Proof.Machine.execFdcSeek side flags s
  | .fdcStep side flags => Sys2Proof.Machine.execFdcStep side flags s
  | .fdcStepUpdate side flags => Sys2Proof.Machine.execFdcStepUpdate side flags s
  | .fdcStepIn side flags => Sys2Proof.Machine.execFdcStepIn side flags s
  | .fdcStepInUpdate side flags => Sys2Proof.Machine.execFdcStepInUpdate side flags s
  | .fdcStepOut side flags => Sys2Proof.Machine.execFdcStepOut side flags s
  | .fdcStepOutUpdate side flags => Sys2Proof.Machine.execFdcStepOutUpdate side flags s
  | .fdcReadSector side flags => Sys2Proof.Machine.execFdcReadSector side flags s
  | .fdcReadSectors side flags => Sys2Proof.Machine.execFdcReadSectors side flags s
  | .fdcWriteSector side flags => Sys2Proof.Machine.execFdcWriteSector side flags s
  | .fdcWriteSectors side flags => Sys2Proof.Machine.execFdcWriteSectors side flags s
  | .fdcReadAddress side flags => Sys2Proof.Machine.execFdcReadAddress side flags s
  | .fdcForceInterrupt side flags => Sys2Proof.Machine.execFdcForceInterrupt side flags s
  | .fdcReadTrack side flags => Sys2Proof.Machine.execFdcReadTrack side flags s
  | .fdcWriteTrack side flags => Sys2Proof.Machine.execFdcWriteTrack side flags s
  | .nop => Sys2Proof.Machine.execNop s
  | .ldAtBcA => Sys2Proof.Machine.execLdAtBcA s
  | .rlca => Sys2Proof.Machine.execRlca s
  | .exAfAf => Sys2Proof.Machine.execExAfAf s
  | .ldAAtBc => Sys2Proof.Machine.execLdAAtBc s
  | .rrca => Sys2Proof.Machine.execRrca s
  | .ldAtDeA => Sys2Proof.Machine.execLdAtDeA s
  | .rla => Sys2Proof.Machine.execRla s
  | .ldAAtDe => Sys2Proof.Machine.execLdAAtDe s
  | .rra => Sys2Proof.Machine.execRra s
  | .daa => Sys2Proof.Machine.execDaa s
  | .cpl => Sys2Proof.Machine.execCpl s
  | .incAtHl => Sys2Proof.Machine.execIncAtHl s
  | .decAtHl => Sys2Proof.Machine.execDecAtHl s
  | .scf => Sys2Proof.Machine.execScf s
  | .ccf => Sys2Proof.Machine.execCcf s
  | .halt => Sys2Proof.Machine.execHalt s
  | .addAAtHl => Sys2Proof.Machine.execAddAAtHl s
  | .adcAAtHl => Sys2Proof.Machine.execAdcAAtHl s
  | .subAtHl => Sys2Proof.Machine.execSubAtHl s
  | .sbcAAtHl => Sys2Proof.Machine.execSbcAAtHl s
  | .andAtHl => Sys2Proof.Machine.execAndAtHl s
  | .xorAtHl => Sys2Proof.Machine.execXorAtHl s
  | .orAtHl => Sys2Proof.Machine.execOrAtHl s
  | .cpAtHl => Sys2Proof.Machine.execCpAtHl s
  | .ret => Sys2Proof.Machine.execRet s
  | .prefixCb => Sys2Proof.Machine.execPrefixCb s
  | .exx => Sys2Proof.Machine.execExx s
  | .prefixDd => Sys2Proof.Machine.execPrefixDd s
  | .exAtSpHl => Sys2Proof.Machine.execExAtSpHl s
  | .jpHl => Sys2Proof.Machine.execJpHl s
  | .exDeHl => Sys2Proof.Machine.execExDeHl s
  | .prefixEd => Sys2Proof.Machine.execPrefixEd s
  | .di => Sys2Proof.Machine.execDi s
  | .ldSpHl => Sys2Proof.Machine.execLdSpHl s
  | .ei => Sys2Proof.Machine.execEi s
  | .prefixFd => Sys2Proof.Machine.execPrefixFd s
  | .rlcAtHl => Sys2Proof.Machine.execRlcAtHl s
  | .rrcAtHl => Sys2Proof.Machine.execRrcAtHl s
  | .rlAtHl => Sys2Proof.Machine.execRlAtHl s
  | .rrAtHl => Sys2Proof.Machine.execRrAtHl s
  | .slaAtHl => Sys2Proof.Machine.execSlaAtHl s
  | .sraAtHl => Sys2Proof.Machine.execSraAtHl s
  | .srlAtHl => Sys2Proof.Machine.execSrlAtHl s
  | .neg => Sys2Proof.Machine.execNeg s
  | .retn => Sys2Proof.Machine.execRetn s
  | .im0 => Sys2Proof.Machine.execIm0 s
  | .ldIA => Sys2Proof.Machine.execLdIA s
  | .reti => Sys2Proof.Machine.execReti s
  | .ldRA => Sys2Proof.Machine.execLdRA s
  | .im1 => Sys2Proof.Machine.execIm1 s
  | .ldAI => Sys2Proof.Machine.execLdAI s
  | .im2 => Sys2Proof.Machine.execIm2 s
  | .ldAR => Sys2Proof.Machine.execLdAR s
  | .rrd => Sys2Proof.Machine.execRrd s
  | .rld => Sys2Proof.Machine.execRld s
  | .inFC => Sys2Proof.Machine.execInFC s
  | .outC0 => Sys2Proof.Machine.execOutC0 s
  | .im1Mirror => Sys2Proof.Machine.execIm1Mirror s
  | .im2Mirror => Sys2Proof.Machine.execIm2Mirror s
  | .ldi => Sys2Proof.Machine.execLdi s
  | .cpi => Sys2Proof.Machine.execCpi s
  | .ini => Sys2Proof.Machine.execIni s
  | .outi => Sys2Proof.Machine.execOuti s
  | .ldd => Sys2Proof.Machine.execLdd s
  | .cpd => Sys2Proof.Machine.execCpd s
  | .ind => Sys2Proof.Machine.execInd s
  | .outd => Sys2Proof.Machine.execOutd s
  | .ldir => Sys2Proof.Machine.execLdir s
  | .cpir => Sys2Proof.Machine.execCpir s
  | .inir => Sys2Proof.Machine.execInir s
  | .otir => Sys2Proof.Machine.execOtir s
  | .lddr => Sys2Proof.Machine.execLddr s
  | .cpdr => Sys2Proof.Machine.execCpdr s
  | .indr => Sys2Proof.Machine.execIndr s
  | .otdr => Sys2Proof.Machine.execOtdr s
  | .incIx => Sys2Proof.Machine.execIncIx s
  | .incIxh => Sys2Proof.Machine.execIncIxh s
  | .decIxh => Sys2Proof.Machine.execDecIxh s
  | .decIx => Sys2Proof.Machine.execDecIx s
  | .incIxl => Sys2Proof.Machine.execIncIxl s
  | .decIxl => Sys2Proof.Machine.execDecIxl s
  | .addAIxh => Sys2Proof.Machine.execAddAIxh s
  | .addAIxl => Sys2Proof.Machine.execAddAIxl s
  | .adcAIxh => Sys2Proof.Machine.execAdcAIxh s
  | .adcAIxl => Sys2Proof.Machine.execAdcAIxl s
  | .subIxh => Sys2Proof.Machine.execSubIxh s
  | .subIxl => Sys2Proof.Machine.execSubIxl s
  | .sbcAIxh => Sys2Proof.Machine.execSbcAIxh s
  | .sbcAIxl => Sys2Proof.Machine.execSbcAIxl s
  | .andIxh => Sys2Proof.Machine.execAndIxh s
  | .andIxl => Sys2Proof.Machine.execAndIxl s
  | .xorIxh => Sys2Proof.Machine.execXorIxh s
  | .xorIxl => Sys2Proof.Machine.execXorIxl s
  | .orIxh => Sys2Proof.Machine.execOrIxh s
  | .orIxl => Sys2Proof.Machine.execOrIxl s
  | .cpIxh => Sys2Proof.Machine.execCpIxh s
  | .cpIxl => Sys2Proof.Machine.execCpIxl s
  | .prefixDdcb => Sys2Proof.Machine.execPrefixDdcb s
  | .popIx => Sys2Proof.Machine.execPopIx s
  | .exAtSpIx => Sys2Proof.Machine.execExAtSpIx s
  | .pushIx => Sys2Proof.Machine.execPushIx s
  | .jpIx => Sys2Proof.Machine.execJpIx s
  | .prefixEdIdx => Sys2Proof.Machine.execPrefixEdIdx s
  | .ldSpIx => Sys2Proof.Machine.execLdSpIx s
  | .incIy => Sys2Proof.Machine.execIncIy s
  | .incIyh => Sys2Proof.Machine.execIncIyh s
  | .decIyh => Sys2Proof.Machine.execDecIyh s
  | .decIy => Sys2Proof.Machine.execDecIy s
  | .incIyl => Sys2Proof.Machine.execIncIyl s
  | .decIyl => Sys2Proof.Machine.execDecIyl s
  | .addAIyh => Sys2Proof.Machine.execAddAIyh s
  | .addAIyl => Sys2Proof.Machine.execAddAIyl s
  | .adcAIyh => Sys2Proof.Machine.execAdcAIyh s
  | .adcAIyl => Sys2Proof.Machine.execAdcAIyl s
  | .subIyh => Sys2Proof.Machine.execSubIyh s
  | .subIyl => Sys2Proof.Machine.execSubIyl s
  | .sbcAIyh => Sys2Proof.Machine.execSbcAIyh s
  | .sbcAIyl => Sys2Proof.Machine.execSbcAIyl s
  | .andIyh => Sys2Proof.Machine.execAndIyh s
  | .andIyl => Sys2Proof.Machine.execAndIyl s
  | .xorIyh => Sys2Proof.Machine.execXorIyh s
  | .xorIyl => Sys2Proof.Machine.execXorIyl s
  | .orIyh => Sys2Proof.Machine.execOrIyh s
  | .orIyl => Sys2Proof.Machine.execOrIyl s
  | .cpIyh => Sys2Proof.Machine.execCpIyh s
  | .cpIyl => Sys2Proof.Machine.execCpIyl s
  | .prefixFdcb => Sys2Proof.Machine.execPrefixFdcb s
  | .popIy => Sys2Proof.Machine.execPopIy s
  | .exAtSpIy => Sys2Proof.Machine.execExAtSpIy s
  | .pushIy => Sys2Proof.Machine.execPushIy s
  | .jpIy => Sys2Proof.Machine.execJpIy s
  | .ldSpIy => Sys2Proof.Machine.execLdSpIy s

end Sys2Proof.Machine
end

