-- ==== Sys2Proof/Machine/Fetch.lean ====
section
/-! DEFINITION. Fetching an instruction's bytes, the acceptance test, the halted step and the end of a step (60_exceptions.md R900, R905). -/

namespace Sys2Proof.Machine

/-- The instruction at PC in the current table under the current index mode, and how many bytes it takes. -/
def decodeAt (s : State) : Instr × Nat :=
  decodeOp s.ctl.table s.ctl.idx (s.byteAt s.regs.pc) (s.byteAt (s.regs.pc + 1#16)) (s.byteAt (s.regs.pc + 2#16))

/-- Fetch `n` operand bytes (20_memory.md R215). -/
def fetchOperands : Nat → State → State
  | 0, s => s
  | n + 1, s => fetchOperands n (fetch8 s).2

/-- Fetch the bytes of an instruction: the first is an opcode fetch, but in DD CB d op and FD CB d op (10_state.md R116), the others are
operand fetches. The next opcode byte is looked up in the main table again. -/
def fetchInstr (s : State) : Instr × State :=
  let i := decodeAt s
  let first :=
    match s.ctl.table with
    | .ddcb | .fdcb => (fetch8 s).2
    | _ => (fetchOp s).2
  (i.1, setTable .main (fetchOperands (i.2 - 1) first))

/-- The acceptance test (R905). -/
def acceptsInterrupt (s : State) : Bool :=
  s.sig.intStatus &&& intMask != intMask && s.ctl.iff1 && !s.ctl.afterEiDi && s.ctl.idx == .hl

/-- Accept a maskable interrupt when the test holds (R900 (2)). -/
def acceptInterrupt (s : State) : State := if acceptsInterrupt s then takeInterrupt .maskable s else s

/-- The halted step (44_general_control.md R606): a timed read at PC whose value is discarded, and one count of R. -/
def haltedStep (s : State) : State := countRefresh (memCharge s.regs.pc s)

/-- The instructions that hold off the next acceptance (10_state.md R122). -/
def isEiDi : Instr → Bool
  | .ei | .di => true
  | _ => false

/-- The end of a step (R900 (4)). -/
def endStep (eiDi : Bool) (s : State) : State :=
  s.mapCtl fun k => { k with afterEiDi := eiDi, idx := k.idxNext, idxNext := .hl }

end Sys2Proof.Machine
end

