-- ==== Sys2Proof/Machine/Frame.lean ====
section
/-! DEFINITION. Reset (70_reset_and_hazards.md R1200) and the frame boundary (60_exceptions.md R942 to R944): what the frame driver and the
host do between two steps. -/

namespace Sys2Proof.Machine

/-! ### Reset (R1200) -/

/-- The register file after `Reset()`: the registers R1200 calls unspecified are free values (log entry 6). -/
def resetRegs (draws : Nat) : Regs :=
  let u (k : Nat) : Byte := Config.freeByte (draws + k)
  { a := u 0, f := 0x40, b := u 1, c := u 2, d := u 3, e := u 4, h := u 5, l := u 6,
    a' := u 7, f' := u 8, b' := u 9, c' := u 10, d' := u 11, e' := u 12, h' := u 13, l' := u 14,
    ix := Config.ixySentinel, iy := Config.ixySentinel, sp := .ofBytes (u 15) (u 16), pc := Config.resetPc, i := 0, r := 0 }

/-- `Reset()` (R1200). What it does not name is unchanged; `fdc.disk` stays. -/
def resetMachine (s : State) : State :=
  { s with
    regs := resetRegs s.draws
    ctl := Control.reset
    clock := { s.clock with frameEnd := false, maybeContended := lineContended s.clock.line }
    sig := { s.sig with resetPending := false, nmiPending := false, intStatus := 0xFF }
    fdc := { Fdc.reset with disk := s.fdc.disk }
    draws := s.draws + 17 }

/-! ### The host (R944) -/

/-- One action of the host. -/
def hostAct (x : HostAction) (s : State) : State :=
  match x with
  | .ext y => extAct y s
  | .setNmi level => s.mapSig fun g => { g with nmiPending := level }
  | .setReset level => s.mapSig fun g => { g with resetPending := level }
  | .setPaused level => s.mapSig fun g => { g with paused := level }
  | .insertDisk d => insertDisk d s
  | .ejectDisk => setDisk none s

/-- Its actions in order, until one raises the fault. -/
def runHost (acts : List HostAction) (s : State) : State := acts.foldl (fun s x => unlessFault s (hostAct x)) s

/-- The host's services at a frame boundary: free actions, log entry 9. -/
def hostServices (s : State) : State := runHost (Config.hostActions s.draws) s.nextDraw

/-! ### The boundary (R942, R943) -/

/-- End the frame: clear `frame_end`, restart the scanlines (R942 (1)). -/
def closeFrame (s : State) : State :=
  if s.clock.frameEnd then
    s.mapClock fun k => { k with frameEnd := false, line := 0, maybeContended := lineContended 0 }
  else s

/-- An NMI is taken at this boundary (R943, R920). -/
def acceptsNmi (s : State) : Bool := s.sig.nmiPending && !s.sig.paused && s.ctl.idx == .hl

/-- The pseudo-interrupts (R943): reset, else NMI. -/
def pseudoInterrupts (s : State) : State :=
  if s.sig.resetPending then resetMachine s
  else if acceptsNmi s then takeInterrupt .nmi (s.mapSig fun g => { g with nmiPending := false })
  else s

/-- `FrameBoundary()` (R942). -/
def frameBoundary (s : State) : State := unlessFault (hostServices (fdcFrameTick (closeFrame s))) pseudoInterrupts

end Sys2Proof.Machine
end

