-- ==== Sys2Proof/Machine/Cycle.lean ====
section
/-! DEFINITION. One trip round the decode-execute loop (60_exceptions.md R900, R941, R961) and the placing of an instruction where it fetches. -/

namespace Sys2Proof.Machine

/-- The end of a step whose instruction has run: at once where the machine has entered the fault state (R961). -/
def finishStep (i : Instr) (s : State) : Result := .next (if s.fault.isSome then s else endStep (isEiDi i) s)

/-- Fetch and execute in the sub-table a prefix byte of this step has selected, then end the step. -/
def runSubTable (s : State) : Result :=
  let f := fetchInstr s
  match exec f.1 f.2 with
  | .next t => finishStep f.1 t
  | .fault r => .fault r
  | .refused r => .refused r

/-- Fetch and execute the instruction at PC, then end the step (R900 (3), (4)). A prefix byte that selects a sub-table goes on to the opcode
there in the same step. -/
def runInstr (s : State) : Result :=
  let f := fetchInstr s
  match exec f.1 f.2 with
  | .next t => if t.ctl.table = .main then finishStep f.1 t else runSubTable t
  | .fault r => .fault r
  | .refused r => .refused r

/-- What follows the event check (R900 (2) to (4)). -/
def afterCheck (s : State) : Result :=
  let s := acceptInterrupt s
  if s.ctl.halted then .next (endStep false (haltedStep s)) else runInstr s

/-- One step of the CPU (R900). -/
def cpuStep (s : State) : Result :=
  let s := eventCheck s
  if s.fault.isSome then .next s else afterCheck s

/-- The frame driver runs instead of the CPU: the frame has ended or the CPU is held (R941, R943; log entry 16). -/
def atFrameBoundary (s : State) : Bool := s.clock.frameEnd || s.sig.paused

/-- One step of the machine: none in the fault state (R961), the frame boundary where the frame driver runs, else one step of the CPU. -/
def machineStep (s : State) : Result :=
  match s.fault with
  | some f => .fault f
  | none => if atFrameBoundary s then .next (frameBoundary s) else cpuStep s

/-- Put four instruction bytes at PC, low byte of `v` first. -/
def placeInstr (v : Nat) (s : State) : State :=
  (((s.pokeByte s.regs.pc (.ofNat 8 v)).pokeByte (s.regs.pc + 1#16) (.ofNat 8 (v / 2 ^ 8))).pokeByte (s.regs.pc + 2#16)
    (.ofNat 8 (v / 2 ^ 16))).pokeByte (s.regs.pc + 3#16) (.ofNat 8 (v / 2 ^ 24))

end Sys2Proof.Machine
end

