-- ==== Sys2Proof/Machine/Step.lean ====
section
/-! DEFINITION. The step of the machine, and an instruction placed where it fetches its next one. -/

namespace Sys2Proof.Machine

/-- One step (60_exceptions.md R900, R940 to R943, R961). -/
def step (s : State) : Host.Outcome State Fault Refusal := machineStep s

/-- `s` with the instruction of the bits `w` (those from `nbits` on are 0) in the four bytes from PC on: this stands for the host's
loading of a program (70_reset_and_hazards.md R1201; log entry 18). -/
def State.withFetchWord (s : State) (nbits w : Nat) : State := placeInstr (w % 2 ^ nbits) s

end Sys2Proof.Machine
end

