-- ==== Sys2Proof/Safety.lean ====
section
/-! DEFINITION. The terms statements are made in: the invariants the spec gives the machine, a running machine, and what a rule says an
instruction does. -/

namespace Sys2Proof.Machine

/-- The event queue is sorted by due time and within its capacity (61_event_queue.md R1003 (a), (c)). -/
structure QueueOk (q : List Event) : Prop where
  sorted : q.Pairwise fun a b => a.due ≤ b.due
  bounded : q.length ≤ Config.eventCapacity

/-- The timing state (10_state.md R124, R126, R128): the mark is not ahead of the line-cycle counter, the contention flag is that of the
scanline, and `frame_end` is set exactly when the scanlines have run out. -/
structure ClockOk (k : Clock) : Prop where
  mark : k.lineCycleMark ≤ k.lineCycle
  contended : k.maybeContended = lineContended k.line
  ended : k.frameEnd = decide (Config.linesPerFrame ≤ k.line)

/-- A sector that has a data field has at least one byte in it (62_fdc.md R1105, R1106). -/
def sectorHasBytes (x : Sector) : Prop := x.hasData = true → 0 < x.data.length

/-- Every sector of a disk that has a data field has a byte in it. -/
def diskOk : Option Disk → Prop
  | some (.image d) => (∀ t ∈ d.tracks, ∀ x ∈ t.sectors, sectorHasBytes x) ∧ ∀ x ∈ d.cur, sectorHasBytes x
  | _ => True

/-- The controller (62_fdc.md R1185 (a), (b), (e), (f); R1110: bit 2 is never stored; R1128: the head's range; the held-back data status
is at most `CRC_ERROR`, R1143). -/
structure FdcOk (f : Fdc) : Prop where
  drq : f.status.getLsbD 1 = true → f.status.getLsbD 0 = true ∧ statusIsType1 f.cmd = false ∧ f.bufPos < f.bufLen
  busy : f.status.getLsbD 0 = true → statusIsType1 f.cmd = false
  lost : f.status.getLsbD 2 = false
  motor : f.status.getLsbD 7 = decide (0 < f.motorFrames)
  head : f.head ≤ Config.headMax
  held : f.dataStatus &&& ~~~stCrcError = 0#8
  disk : diskOk f.disk

/-- What every step keeps. -/
structure State.Inv (s : State) : Prop where
  mem : Memory.wf s.mem = true
  queue : QueueOk s.events
  clock : ClockOk s.clock
  fdc : FdcOk s.fdc
  intHigh : s.sig.intStatus &&& 0xE0#8 = 0xE0#8
  table : s.ctl.table = .main

/-- The next step is one of the CPU: no fault, no frame boundary (60_exceptions.md R900, R941). -/
def State.Running (s : State) : Prop := s.fault = none ∧ s.clock.frameEnd = false ∧ s.sig.paused = false

/-! ### What an instruction does, as the rules tabulate it

Each rule of the instruction files gives the registers and the control state after, the memory accesses in order, and `T` and `N`. The
statements write these down as an `Effect`, and `Completes` says that `exec` answers with exactly that and changes nothing else. -/

/-- One byte access of the timed layer (20_memory.md R210, R211). -/
inductive Access where
  | read (addr : Word)
  | write (addr : Word) (value : Byte)
  deriving DecidableEq, Repr

/-- The address of an access. -/
def Access.addr : Access → Word
  | .read a => a
  | .write a _ => a

/-- The bytes of memory after one access: a write changes its own byte, where the address is writable (R211). -/
def Access.apply (s : State) (m : Word → Byte) (x : Access) : Word → Byte := fun a =>
  match x with
  | .read _ => m a
  | .write w v => if a = w ∧ writable w s = true then v else m a

/-- The bytes of memory after a list of accesses, first access first. -/
def bytesAfter (l : List Access) (s : State) : Word → Byte := l.foldl (Access.apply s) s.byteAt

/-- The line-cycle counter after a list of accesses, each charged by the contention rule (R203, R204), and the explicit delta of an
instruction whose rule tabulates `T = t` and `N = n` (R206). -/
def cyclesAfter (l : List Access) (t n : Nat) (s : State) : Nat :=
  (l.foldl (fun k x => memCharge x.addr k) s).clock.lineCycle + Config.extra t n

/-- The two accesses of a word read (R212). -/
def readsWord (a : Word) : List Access := [.read a, .read (a + 1#16)]

/-- The two accesses of a word write, low byte first (R213). -/
def writesWord (a v : Word) : List Access := [.write a (loByte v), .write (a + 1#16) (hiByte v)]

/-- The word at an address: the byte there is the low half (R201). -/
def State.wordAt (s : State) (a : Word) : Word := .ofBytes (s.byteAt (a + 1#16)) (s.byteAt a)

/-- What a rule says an instruction does. -/
structure Effect where
  /-- The registers after. -/
  regs : Regs
  /-- The bits of F the rule leaves unspecified: nothing is said of them. -/
  openF : Byte := 0#8
  /-- The control state after. -/
  ctl : Control
  /-- The memory accesses of the Operation, in order; instruction bytes have been fetched before. -/
  accesses : List Access := []
  /-- `T` of the rule. -/
  t : Nat
  /-- `N` of the rule. -/
  n : Nat

/-- An effect that leaves the control state as it is and fixes every flag: the registers after, the accesses, `T` and `N`. -/
def plain (s : State) (g : Regs) (l : List Access) (t n : Nat) : Effect := { regs := g, ctl := s.ctl, accesses := l, t := t, n := n }

/-- The register file with the accumulator and the flags replaced. -/
def Regs.withAF (g : Regs) (p : Byte × Byte) : Regs := { g with a := p.1, f := p.2 }

/-- The register file with the flags replaced. -/
def Regs.withF (g : Regs) (f : Byte) : Regs := { g with f := f }

/-- The registers after one iteration of LDI (`delta` 1) or LDD (`delta` -1), PC left as `pc` (42_exchange_block.md R506, R508). -/
def blockLoadRegs (delta pc : Word) (s : State) : Regs :=
  { (setBc (getBc s - 1#16) (setDe (getDe s + delta) (setHl (getHl s + delta) s))).regs with
    f := blockLoadFlags (s.regs.a + s.byteAt (getHl s)) (getBc s - 1#16) s.regs.f
    pc := pc }

/-- The registers after one iteration of CPI (`delta` 1) or CPD (`delta` -1), PC left as `pc` (R510, R512). -/
def blockCompareRegs (delta pc : Word) (s : State) : Regs :=
  { (setBc (getBc s - 1#16) (setHl (getHl s + delta) s)).regs with
    f := blockCompareFlags s.regs.a (s.byteAt (getHl s)) (getBc s - 1#16) s.regs.f
    pc := pc }

/-- F with the open bits out. -/
def Regs.closed (g : Regs) (open_ : Byte) : Regs := { g with f := g.f &&& ~~~open_ }

/-- `t` is `b` with the effect `e` done on it and nothing else changed. -/
def HasEffect (t b : State) (e : Effect) : Prop :=
  t.regs.closed e.openF = e.regs.closed e.openF ∧ t.ctl = e.ctl ∧
    (∀ a, t.byteAt a = bytesAfter e.accesses b a) ∧ t.clock = { b.clock with lineCycle := cyclesAfter e.accesses e.t e.n b } ∧
    t.sig = b.sig ∧ t.events = b.events ∧ t.fdc = b.fdc ∧ t.paging = b.paging ∧ t.fault = b.fault ∧
    (e.openF = 0#8 → t.draws = b.draws)

/-- `exec i s` answers a next state that has the effect `e` on `b` (the state after the port access of an I/O instruction; else `s`
itself), and in which everything `e` does not name is as in `b`. -/
def CompletesFrom (i : Instr) (s b : State) (e : Effect) : Prop := ∃ t, exec i s = .next t ∧ HasEffect t b e

/-- `exec i s` answers a next state that has the effect `e` on `s` and changes nothing else. -/
def Completes (i : Instr) (s : State) (e : Effect) : Prop := CompletesFrom i s s e

/-! ### Fetching, as 20_memory.md R214 and R215 say it -/

/-- R after one opcode fetch: bits 6 to 0 count, bit 7 stays (10_state.md R116). -/
def refreshed (r : Byte) : Byte := (r &&& 0x80#8) ||| ((r + 1#8) &&& 0x7F#8)

/-- The accesses that fetch `n` bytes from an address on. -/
def readsFrom (a : Word) : Nat → List Access
  | 0 => []
  | n + 1 => .read a :: readsFrom (a + 1#16) n

/-- The state once the `n` bytes of an instruction have been fetched: PC is past them, each has been charged, R has counted where the
first of them is an opcode fetch, and the next opcode byte is one of the main table. -/
def fetched (n : Nat) (counts : Bool) (s : State) : State :=
  { s with
    regs := { s.regs with pc := s.regs.pc + .ofNat 16 n, r := if counts then refreshed s.regs.r else s.regs.r }
    ctl := { s.ctl with table := .main }
    clock := { s.clock with lineCycle := cyclesAfter (readsFrom s.regs.pc n) 0 0 s } }

/-- The main-table opcodes an index mode affects (30_encoding.md R312): those naming HL as a pair (a), those naming H, L or the byte at HL
(b), (c), and 0xCB (e). -/
def indexAffects (op : Byte) : Bool :=
  let half (k : Nat) : Bool := k == 4 || k == 5 || k == 6
  let pairs : List Byte := [0x09#8, 0x19#8, 0x21#8, 0x22#8, 0x23#8, 0x29#8, 0x2A#8, 0x2B#8, 0x39#8, 0xE1#8, 0xE3#8, 0xE5#8, 0xE9#8, 0xF9#8]
  let y := op.toNat / 8 % 8
  let z := op.toNat % 8
  pairs.contains op || op == 0xCB#8 ||
    match op.toNat / 64 with
    | 0 => half z && half y
    | 1 => op != 0x76#8 && (half y || half z)
    | 2 => half z
    | _ => false

/-! ### The floppy disk controller, as 62_fdc.md says it -/

/-- The controller after the common part of an accepted command write (R1115): the status keeps `MOTOR_ON` alone, the command, its flags and
the side are latched, any transfer is dropped. -/
def acceptedFdc (code : Byte) (side : Bool) (flags : BitVec 4) (f : Fdc) : Fdc :=
  { f with
    status := f.status &&& 0x80#8
    cmd := code
    flags := flags
    side := side
    state := 0
    bufPos := 0
    bufLen := 0
    dataStatus := 0 }

/-- The controller after an accepted command of type 1, 2 or 3, the status and the countdown of the motor among it (R1116, R1128, R1138). -/
def engagedFdc (code : Byte) (side : Bool) (flags : BitVec 4) (status : Byte) (f : Fdc) : Fdc :=
  { acceptedFdc code side flags f with status := status, motorFrames := 100 }

/-- A sector whose ID bytes are those of the track and sector registers (R1145). -/
def matchesId (f : Fdc) (x : Sector) : Bool := x.id.track == f.track && x.id.sector == f.sector

/-- The instructions that make a port access (48_io.md). -/
def isPortInstr : Instr → Bool
  | .inAN _ | .inRC _ | .inFC | .outNA _ | .outCR _ | .outC0 => true
  | .ini | .ind | .inir | .indr | .outi | .outd | .otir | .otdr => true
  | _ => false

end Sys2Proof.Machine
end

