-- ==== Sys2Proof/Certificates/Slice0/Obligations.lean ====
section
/-! DEFINITION. The statements for the provers. The first part says, family by family, that every instruction completes and what it does: its
registers, its flags, its memory accesses in order and the time they take, and that nothing else changes (`Completes`, Safety.lean). -/

open Sys2Proof Sys2Proof.Machine

/-! ### 8-bit loads (40_load8.md) -/

/-- LD r,r', LD r,n, LD through HL, BC, DE and nn: R401 to R403, R406, R409, R412 to R417. -/
def Obligations.Load8Completes : Prop :=
  ∀ s : State, Memory.wf s.mem = true →
    (∀ r src, Completes (.ldRR r src) s (plain s (setR r (getR src s) s).regs [] 4 1)) ∧
    (∀ r n, Completes (.ldRN r n) s (plain s (setR r n s).regs [] 7 2)) ∧
    (∀ r, Completes (.ldRAtHl r) s (plain s (setR r (s.byteAt (getHl s)) s).regs [.read (getHl s)] 7 2)) ∧
    (∀ src, Completes (.ldAtHlR src) s (plain s s.regs [.write (getHl s) (getR src s)] 7 2)) ∧
    (∀ n, Completes (.ldAtHlN n) s (plain s s.regs [.write (getHl s) n] 10 3)) ∧
    Completes .ldAAtBc s (plain s { s.regs with a := s.byteAt (getBc s) } [.read (getBc s)] 7 2) ∧
    Completes .ldAAtDe s (plain s { s.regs with a := s.byteAt (getDe s) } [.read (getDe s)] 7 2) ∧
    (∀ nn, Completes (.ldAAtNn nn) s (plain s { s.regs with a := s.byteAt nn } [.read nn] 13 4)) ∧
    Completes .ldAtBcA s (plain s s.regs [.write (getBc s) s.regs.a] 7 2) ∧
    Completes .ldAtDeA s (plain s s.regs [.write (getDe s) s.regs.a] 7 2) ∧
    ∀ nn, Completes (.ldAtNnA nn) s (plain s s.regs [.write nn s.regs.a] 13 4)

/-- LD with an index register and LD with I and R: R404, R405, R407, R408, R410, R411, R418 to R421. -/
def Obligations.LoadIndexedAndSpecialCompletes : Prop :=
  ∀ s : State, Memory.wf s.mem = true →
    (∀ r d, Completes (.ldRAtIx r d) s (plain s (setR r (s.byteAt (ea .ix d s)) s).regs [.read (ea .ix d s)] 19 4)) ∧
    (∀ r d, Completes (.ldRAtIy r d) s (plain s (setR r (s.byteAt (ea .iy d s)) s).regs [.read (ea .iy d s)] 19 4)) ∧
    (∀ src d, Completes (.ldAtIxR src d) s (plain s s.regs [.write (ea .ix d s) (getR src s)] 19 4)) ∧
    (∀ src d, Completes (.ldAtIyR src d) s (plain s s.regs [.write (ea .iy d s) (getR src s)] 19 4)) ∧
    (∀ d n, Completes (.ldAtIxN d n) s (plain s s.regs [.write (ea .ix d s) n] 19 5)) ∧
    (∀ d n, Completes (.ldAtIyN d n) s (plain s s.regs [.write (ea .iy d s) n] 19 5)) ∧
    Completes .ldAI s (plain s (s.regs.withAF (s.regs.i, ldAIFlags s.regs.i s.ctl.iff2 s.regs.f)) [] 9 2) ∧
    Completes .ldAR s (plain s (s.regs.withAF (s.regs.r, ldAIFlags s.regs.r s.ctl.iff2 s.regs.f)) [] 9 2) ∧
    Completes .ldIA s (plain s { s.regs with i := s.regs.a } [] 9 2) ∧
    Completes .ldRA s (plain s { s.regs with r := s.regs.a } [] 9 2)

/-! ### 16-bit loads and the stack (41_load16_stack.md) -/

/-- The 16-bit loads: R451 to R464 and the undocumented ED forms of 49_undocumented_and_fallback.md R819. -/
def Obligations.Load16Completes : Prop :=
  ∀ s : State, Memory.wf s.mem = true →
    (∀ dd nn, Completes (.ldDdNn dd nn) s (plain s (setRp dd nn s).regs [] 10 3)) ∧
    (∀ nn, Completes (.ldIxNn nn) s (plain s { s.regs with ix := nn } [] 14 4)) ∧
    (∀ nn, Completes (.ldIyNn nn) s (plain s { s.regs with iy := nn } [] 14 4)) ∧
    (∀ nn, Completes (.ldHlAtNn nn) s (plain s (setHl (s.wordAt nn) s).regs (readsWord nn) 16 5)) ∧
    (∀ dd nn, Completes (.ldDdAtNn dd nn) s (plain s (setRp dd (s.wordAt nn) s).regs (readsWord nn) 20 6)) ∧
    (∀ nn, Completes (.ldIxAtNn nn) s (plain s { s.regs with ix := s.wordAt nn } (readsWord nn) 20 6)) ∧
    (∀ nn, Completes (.ldIyAtNn nn) s (plain s { s.regs with iy := s.wordAt nn } (readsWord nn) 20 6)) ∧
    (∀ nn, Completes (.ldAtNnHl nn) s (plain s s.regs (writesWord nn (getHl s)) 16 5)) ∧
    (∀ dd nn, Completes (.ldAtNnDd dd nn) s (plain s s.regs (writesWord nn (getRp dd s)) 20 6)) ∧
    (∀ nn, Completes (.ldAtNnIx nn) s (plain s s.regs (writesWord nn s.regs.ix) 20 6)) ∧
    (∀ nn, Completes (.ldAtNnIy nn) s (plain s s.regs (writesWord nn s.regs.iy) 20 6)) ∧
    (∀ nn, Completes (.ldHlAtNnEd nn) s (plain s (setHl (s.wordAt nn) s).regs (readsWord nn) 20 6)) ∧
    (∀ nn, Completes (.ldAtNnHlEd nn) s (plain s s.regs (writesWord nn (getHl s)) 20 6)) ∧
    Completes .ldSpHl s (plain s { s.regs with sp := getHl s } [] 6 1) ∧
    Completes .ldSpIx s (plain s { s.regs with sp := s.regs.ix } [] 10 2) ∧
    Completes .ldSpIy s (plain s { s.regs with sp := s.regs.iy } [] 10 2)

/-- PUSH stores at SP - 2 and SP - 1 and lowers SP by 2; POP loads from SP and SP + 1 and raises SP by 2: R465 to R470. -/
def Obligations.StackCompletes : Prop :=
  ∀ s : State, Memory.wf s.mem = true →
    (∀ qq, Completes (.pushQq qq) s
      (plain s { s.regs with sp := s.regs.sp - 2#16 } (writesWord (s.regs.sp - 2#16) (getRp2 qq s)) 11 3)) ∧
    Completes .pushIx s (plain s { s.regs with sp := s.regs.sp - 2#16 } (writesWord (s.regs.sp - 2#16) s.regs.ix) 15 4) ∧
    Completes .pushIy s (plain s { s.regs with sp := s.regs.sp - 2#16 } (writesWord (s.regs.sp - 2#16) s.regs.iy) 15 4) ∧
    (∀ qq, Completes (.popQq qq) s
      (plain s { (setRp2 qq (s.wordAt s.regs.sp) s).regs with sp := s.regs.sp + 2#16 } (readsWord s.regs.sp) 10 3)) ∧
    Completes .popIx s (plain s { s.regs with sp := s.regs.sp + 2#16, ix := s.wordAt s.regs.sp } (readsWord s.regs.sp) 14 4) ∧
    Completes .popIy s (plain s { s.regs with sp := s.regs.sp + 2#16, iy := s.wordAt s.regs.sp } (readsWord s.regs.sp) 14 4)

/-! ### Exchanges and blocks (42_exchange_block.md) -/

/-- The six exchanges: R500 to R505. -/
def Obligations.ExchangeCompletes : Prop :=
  ∀ s : State, Memory.wf s.mem = true →
    Completes .exDeHl s (plain s { s.regs with d := s.regs.h, e := s.regs.l, h := s.regs.d, l := s.regs.e } [] 4 1) ∧
    Completes .exAfAf s (plain s { s.regs with a := s.regs.a', f := s.regs.f', a' := s.regs.a, f' := s.regs.f } [] 4 1) ∧
    Completes .exx s (plain s
      { s.regs with
        b := s.regs.b', c := s.regs.c', d := s.regs.d', e := s.regs.e', h := s.regs.h', l := s.regs.l'
        b' := s.regs.b, c' := s.regs.c, d' := s.regs.d, e' := s.regs.e, h' := s.regs.h, l' := s.regs.l } [] 4 1) ∧
    Completes .exAtSpHl s (plain s (setHl (s.wordAt s.regs.sp) s).regs (readsWord s.regs.sp ++ writesWord s.regs.sp (getHl s)) 19 5) ∧
    Completes .exAtSpIx s
      (plain s { s.regs with ix := s.wordAt s.regs.sp } (readsWord s.regs.sp ++ writesWord s.regs.sp s.regs.ix) 23 6) ∧
    Completes .exAtSpIy s
      (plain s { s.regs with iy := s.wordAt s.regs.sp } (readsWord s.regs.sp ++ writesWord s.regs.sp s.regs.iy) 23 6)

/-- Block transfer: one byte from HL to DE a step; the repeating forms run again, PC back by 2, until BC is 0: R506 to R509. -/
def Obligations.BlockTransferCompletes : Prop :=
  ∀ s : State, Memory.wf s.mem = true →
    let l := [Access.read (getHl s), Access.write (getDe s) (s.byteAt (getHl s))]
    Completes .ldi s (plain s (blockLoadRegs 1#16 s.regs.pc s) l 16 4) ∧
    Completes .ldd s (plain s (blockLoadRegs (-1#16) s.regs.pc s) l 16 4) ∧
    (getBc s = 1#16 → Completes .ldir s (plain s (blockLoadRegs 1#16 s.regs.pc s) l 16 4) ∧
      Completes .lddr s (plain s (blockLoadRegs (-1#16) s.regs.pc s) l 16 4)) ∧
    (getBc s ≠ 1#16 → Completes .ldir s (plain s (blockLoadRegs 1#16 (s.regs.pc - 2#16) s) l 21 4) ∧
      Completes .lddr s (plain s (blockLoadRegs (-1#16) (s.regs.pc - 2#16) s) l 21 4))

/-- Block search: A is compared with the byte at HL; the repeating forms run again until BC is 0 or the byte is A: R510 to R513. -/
def Obligations.BlockSearchCompletes : Prop :=
  ∀ s : State, Memory.wf s.mem = true →
    let l := [Access.read (getHl s)]
    Completes .cpi s (plain s (blockCompareRegs 1#16 s.regs.pc s) l 16 3) ∧
    Completes .cpd s (plain s (blockCompareRegs (-1#16) s.regs.pc s) l 16 3) ∧
    ((getBc s = 1#16 ∨ s.byteAt (getHl s) = s.regs.a) →
      Completes .cpir s (plain s (blockCompareRegs 1#16 s.regs.pc s) l 16 3) ∧
      Completes .cpdr s (plain s (blockCompareRegs (-1#16) s.regs.pc s) l 16 3)) ∧
    ((getBc s ≠ 1#16 ∧ s.byteAt (getHl s) ≠ s.regs.a) →
      Completes .cpir s (plain s (blockCompareRegs 1#16 (s.regs.pc - 2#16) s) l 21 3) ∧
      Completes .cpdr s (plain s (blockCompareRegs (-1#16) (s.regs.pc - 2#16) s) l 21 3))

/-! ### 8-bit arithmetic (43_alu8.md) -/

/-- The eight accumulator operations on each of their five operand forms and on the index halves: R550, R554 to R561, R811. -/
def Obligations.AccumulatorOperationsComplete : Prop :=
  ∀ s : State, Memory.wf s.mem = true →
    let after (op : AluOp) (v : Byte) := s.regs.withAF (aluResult op s.regs.a v s.regs.f)
    (∀ p ∈ [(Instr.addAR, AluOp.add), (.adcAR, .adc), (.subR, .sub), (.sbcAR, .sbc), (.andR, .and), (.xorR, .xor), (.orR, .or),
        (.cpR, .cp)], ∀ src, Completes (p.1 src) s (plain s (after p.2 (getR src s)) [] 4 1)) ∧
    (∀ p ∈ [(Instr.addAN, AluOp.add), (.adcAN, .adc), (.subN, .sub), (.sbcAN, .sbc), (.andN, .and), (.xorN, .xor), (.orN, .or),
        (.cpN, .cp)], ∀ n, Completes (p.1 n) s (plain s (after p.2 n) [] 7 2)) ∧
    (∀ p ∈ [(Instr.addAAtHl, AluOp.add), (.adcAAtHl, .adc), (.subAtHl, .sub), (.sbcAAtHl, .sbc), (.andAtHl, .and), (.xorAtHl, .xor),
        (.orAtHl, .or), (.cpAtHl, .cp)], Completes p.1 s (plain s (after p.2 (s.byteAt (getHl s))) [.read (getHl s)] 7 2)) ∧
    (∀ p ∈ [(Instr.addAAtIx, AluOp.add), (.adcAAtIx, .adc), (.subAtIx, .sub), (.sbcAAtIx, .sbc), (.andAtIx, .and), (.xorAtIx, .xor),
        (.orAtIx, .or), (.cpAtIx, .cp)], ∀ d,
      Completes (p.1 d) s (plain s (after p.2 (s.byteAt (ea .ix d s))) [.read (ea .ix d s)] 19 4)) ∧
    (∀ p ∈ [(Instr.addAAtIy, AluOp.add), (.adcAAtIy, .adc), (.subAtIy, .sub), (.sbcAAtIy, .sbc), (.andAtIy, .and), (.xorAtIy, .xor),
        (.orAtIy, .or), (.cpAtIy, .cp)], ∀ d,
      Completes (p.1 d) s (plain s (after p.2 (s.byteAt (ea .iy d s))) [.read (ea .iy d s)] 19 4)) ∧
    (∀ p ∈ [(Instr.addAIxh, AluOp.add), (.adcAIxh, .adc), (.subIxh, .sub), (.sbcAIxh, .sbc), (.andIxh, .and), (.xorIxh, .xor),
        (.orIxh, .or), (.cpIxh, .cp)], Completes p.1 s (plain s (after p.2 (hiByte s.regs.ix)) [] 8 2)) ∧
    (∀ p ∈ [(Instr.addAIxl, AluOp.add), (.adcAIxl, .adc), (.subIxl, .sub), (.sbcAIxl, .sbc), (.andIxl, .and), (.xorIxl, .xor),
        (.orIxl, .or), (.cpIxl, .cp)], Completes p.1 s (plain s (after p.2 (loByte s.regs.ix)) [] 8 2)) ∧
    (∀ p ∈ [(Instr.addAIyh, AluOp.add), (.adcAIyh, .adc), (.subIyh, .sub), (.sbcAIyh, .sbc), (.andIyh, .and), (.xorIyh, .xor),
        (.orIyh, .or), (.cpIyh, .cp)], Completes p.1 s (plain s (after p.2 (hiByte s.regs.iy)) [] 8 2)) ∧
    ∀ p ∈ [(Instr.addAIyl, AluOp.add), (.adcAIyl, .adc), (.subIyl, .sub), (.sbcAIyl, .sbc), (.andIyl, .and), (.xorIyl, .xor),
        (.orIyl, .or), (.cpIyl, .cp)], Completes p.1 s (plain s (after p.2 (loByte s.regs.iy)) [] 8 2)

/-- INC and DEC of a register, of the byte at HL, IX + d and IY + d, and of the index halves: R562 to R569, R811. -/
def Obligations.IncrementsComplete : Prop :=
  ∀ s : State, Memory.wf s.mem = true →
    let inc (v : Byte) := incFlags v (v + 1#8) s.regs.f
    let dec (v : Byte) := decFlags v (v - 1#8) s.regs.f
    let up (a : Word) := [Access.read a, Access.write a (s.byteAt a + 1#8)]
    let down (a : Word) := [Access.read a, Access.write a (s.byteAt a - 1#8)]
    (∀ r, Completes (.incR r) s (plain s ((setR r (getR r s + 1#8) s).regs.withF (inc (getR r s))) [] 4 1)) ∧
    (∀ r, Completes (.decR r) s (plain s ((setR r (getR r s - 1#8) s).regs.withF (dec (getR r s))) [] 4 1)) ∧
    Completes .incAtHl s (plain s (s.regs.withF (inc (s.byteAt (getHl s)))) (up (getHl s)) 11 3) ∧
    Completes .decAtHl s (plain s (s.regs.withF (dec (s.byteAt (getHl s)))) (down (getHl s)) 11 3) ∧
    (∀ d, Completes (.incAtIx d) s (plain s (s.regs.withF (inc (s.byteAt (ea .ix d s)))) (up (ea .ix d s)) 23 5)) ∧
    (∀ d, Completes (.decAtIx d) s (plain s (s.regs.withF (dec (s.byteAt (ea .ix d s)))) (down (ea .ix d s)) 23 5)) ∧
    (∀ d, Completes (.incAtIy d) s (plain s (s.regs.withF (inc (s.byteAt (ea .iy d s)))) (up (ea .iy d s)) 23 5)) ∧
    (∀ d, Completes (.decAtIy d) s (plain s (s.regs.withF (dec (s.byteAt (ea .iy d s)))) (down (ea .iy d s)) 23 5)) ∧
    (let h := hiByte s.regs.ix
     let l := loByte s.regs.ix
     Completes .incIxh s (plain s { s.regs with f := inc h, ix := .ofBytes (h + 1#8) l } [] 8 2) ∧
     Completes .decIxh s (plain s { s.regs with f := dec h, ix := .ofBytes (h - 1#8) l } [] 8 2) ∧
     Completes .incIxl s (plain s { s.regs with f := inc l, ix := .ofBytes h (l + 1#8) } [] 8 2) ∧
     Completes .decIxl s (plain s { s.regs with f := dec l, ix := .ofBytes h (l - 1#8) } [] 8 2)) ∧
    (let h := hiByte s.regs.iy
     let l := loByte s.regs.iy
     Completes .incIyh s (plain s { s.regs with f := inc h, iy := .ofBytes (h + 1#8) l } [] 8 2) ∧
     Completes .decIyh s (plain s { s.regs with f := dec h, iy := .ofBytes (h - 1#8) l } [] 8 2) ∧
     Completes .incIyl s (plain s { s.regs with f := inc l, iy := .ofBytes h (l + 1#8) } [] 8 2) ∧
     Completes .decIyl s (plain s { s.regs with f := dec l, iy := .ofBytes h (l - 1#8) } [] 8 2))

/-! ### General arithmetic and control (44_general_control.md) -/

/-- DAA, CPL, NEG with its mirrors, CCF, SCF and the no-operations: R600 to R605, R816, R822, R823. The rules leave Y and X open after CCF and
SCF. -/
def Obligations.GeneralArithmeticCompletes : Prop :=
  ∀ s : State,
    Completes .daa s (plain s (s.regs.withAF (daaResult s.regs.a s.regs.f)) [] 4 1) ∧
    Completes .cpl s (plain s (s.regs.withAF (s.regs.a ^^^ 0xFF#8, cplFlags (s.regs.a ^^^ 0xFF#8) s.regs.f)) [] 4 1) ∧
    Completes .neg s (plain s (s.regs.withAF (sub8 0#8 s.regs.a false)) [] 8 2) ∧
    (∀ y, Completes (.negMirror y) s (plain s (s.regs.withAF (sub8 0#8 s.regs.a false)) [] 8 2)) ∧
    Completes .ccf s { regs := s.regs.withF (ccfFlags s.regs.f), openF := 0x28#8, ctl := s.ctl, t := 4, n := 1 } ∧
    Completes .scf s { regs := s.regs.withF (scfFlags s.regs.f), openF := 0x28#8, ctl := s.ctl, t := 4, n := 1 } ∧
    Completes .nop s (plain s s.regs [] 4 1) ∧
    (∀ y, Completes (.nopEd77 y) s (plain s s.regs [] 8 2)) ∧
    ∀ op, Completes (.edNop op) s (plain s s.regs [] 8 2)

/-- HALT, DI, EI, IM and the IM mirrors write only the control state, HALT also PC; the prefix bytes set the index mode of the next opcode or
choose the table of the next byte: R606 to R611, R818, R312, R323, R324, R813. The `table` latch is the model's own (log entry 10). -/
def Obligations.ControlCompletes : Prop :=
  ∀ s : State,
    Completes .halt s { regs := { s.regs with pc := s.regs.pc - 1#16 }, ctl := { s.ctl with halted := true }, t := 4, n := 1 } ∧
    Completes .di s { regs := s.regs, ctl := { s.ctl with iff1 := false, iff2 := false, afterEiDi := true }, t := 4, n := 1 } ∧
    Completes .ei s { regs := s.regs, ctl := { s.ctl with iff1 := true, iff2 := true, afterEiDi := true }, t := 4, n := 1 } ∧
    Completes .im0 s { regs := s.regs, ctl := { s.ctl with im := .im0 }, t := 8, n := 2 } ∧
    Completes .im1 s { regs := s.regs, ctl := { s.ctl with im := .im1 }, t := 8, n := 2 } ∧
    Completes .im2 s { regs := s.regs, ctl := { s.ctl with im := .im2 }, t := 8, n := 2 } ∧
    (∀ y, Completes (.im0Mirror y) s { regs := s.regs, ctl := { s.ctl with im := .im0 }, t := 8, n := 2 }) ∧
    Completes .im1Mirror s { regs := s.regs, ctl := { s.ctl with im := .im1 }, t := 8, n := 2 } ∧
    Completes .im2Mirror s { regs := s.regs, ctl := { s.ctl with im := .im2 }, t := 8, n := 2 } ∧
    Completes .prefixDd s { regs := s.regs, ctl := { s.ctl with idxNext := .ix }, t := 4, n := 1 } ∧
    Completes .prefixFd s { regs := s.regs, ctl := { s.ctl with idxNext := .iy }, t := 4, n := 1 } ∧
    Completes .prefixCb s { regs := s.regs, ctl := { s.ctl with table := .cb }, t := 4, n := 1 } ∧
    Completes .prefixEd s { regs := s.regs, ctl := { s.ctl with table := .ed }, t := 4, n := 1 } ∧
    Completes .prefixEdIdx s { regs := s.regs, ctl := { s.ctl with table := .ed }, t := 4, n := 1 } ∧
    Completes .prefixDdcb s { regs := s.regs, ctl := { s.ctl with table := .ddcb }, t := 4, n := 1 } ∧
    Completes .prefixFdcb s { regs := s.regs, ctl := { s.ctl with table := .fdcb }, t := 4, n := 1 }

/-! ### 16-bit arithmetic (45_alu16.md) -/

/-- ADD, ADC, SBC, INC and DEC of the pairs and the index registers: R630 to R640. -/
def Obligations.Arithmetic16Completes : Prop :=
  ∀ s : State,
    (∀ ss, let p := add16 (getHl s) (getRp ss s) s.regs.f
      Completes (.addHlSs ss) s (plain s ((setHl p.1 s).regs.withF p.2) [] 11 1)) ∧
    (∀ ss, let p := adc16 (getHl s) (getRp ss s) (fC s.regs.f)
      Completes (.adcHlSs ss) s (plain s ((setHl p.1 s).regs.withF p.2) [] 15 2)) ∧
    (∀ ss, let p := sbc16 (getHl s) (getRp ss s) (fC s.regs.f)
      Completes (.sbcHlSs ss) s (plain s ((setHl p.1 s).regs.withF p.2) [] 15 2)) ∧
    (∀ pp, let p := add16 s.regs.ix (getRpx .ix pp s) s.regs.f
      Completes (.addIxPp pp) s (plain s { s.regs with ix := p.1, f := p.2 } [] 15 2)) ∧
    (∀ rr, let p := add16 s.regs.iy (getRpx .iy rr s) s.regs.f
      Completes (.addIyRr rr) s (plain s { s.regs with iy := p.1, f := p.2 } [] 15 2)) ∧
    (∀ ss, Completes (.incSs ss) s (plain s (setRp ss (getRp ss s + 1#16) s).regs [] 6 1)) ∧
    (∀ ss, Completes (.decSs ss) s (plain s (setRp ss (getRp ss s - 1#16) s).regs [] 6 1)) ∧
    Completes .incIx s (plain s { s.regs with ix := s.regs.ix + 1#16 } [] 10 2) ∧
    Completes .incIy s (plain s { s.regs with iy := s.regs.iy + 1#16 } [] 10 2) ∧
    Completes .decIx s (plain s { s.regs with ix := s.regs.ix - 1#16 } [] 10 2) ∧
    Completes .decIy s (plain s { s.regs with iy := s.regs.iy - 1#16 } [] 10 2)

/-! ### Rotates, shifts and bits (46_rotate_shift_bit.md) -/

/-- The accumulator rotates, RLD and RRD: R660 to R663, R673, R674. -/
def Obligations.AccumulatorRotatesComplete : Prop :=
  ∀ s : State, Memory.wf s.mem = true →
    (∀ p ∈ [(Instr.rlca, RotOp.rlc), (.rla, .rl), (.rrca, .rrc), (.rra, .rr)],
      let q := rotate p.2 s.regs.a (fC s.regs.f)
      Completes p.1 s (plain s (s.regs.withAF (q.1, accRotFlags q.1 q.2 s.regs.f)) [] 4 1)) ∧
    (let t := s.byteAt (getHl s)
     let v : Byte := (s.regs.a &&& 0xF0#8) ||| (t >>> 4)
     let m : Byte := (t <<< 4) ||| (s.regs.a &&& 0x0F#8)
     Completes .rld s (plain s (s.regs.withAF (v, valueFlags v s.regs.f)) [.read (getHl s), .write (getHl s) m] 18 4)) ∧
    (let t := s.byteAt (getHl s)
     let v : Byte := (s.regs.a &&& 0xF0#8) ||| (t &&& 0x0F#8)
     let m : Byte := (s.regs.a <<< 4) ||| (t >>> 4)
     Completes .rrd s (plain s (s.regs.withAF (v, valueFlags v s.regs.f)) [.read (getHl s), .write (getHl s) m] 18 4))

/-- The rotates and shifts of the CB tables on a register, on memory, and in the copying form: R664 to R672, R815. -/
def Obligations.RotatesComplete : Prop :=
  ∀ s : State, Memory.wf s.mem = true →
    let res (op : RotOp) (v : Byte) := (rotate op v (fC s.regs.f)).1
    let flags (op : RotOp) (v : Byte) := rotFlags (rotate op v (fC s.regs.f)).1 (rotate op v (fC s.regs.f)).2
    let onReg (op : RotOp) (r : Reg8) := plain s ((setR r (res op (getR r s)) s).regs.withF (flags op (getR r s))) [] 8 2
    let onMem (op : RotOp) (a : Word) := plain s (s.regs.withF (flags op (s.byteAt a))) [.read a, .write a (res op (s.byteAt a))]
    let onCopy (op : RotOp) (a : Word) (r : Reg8) :=
      plain s ((setR r (res op (s.byteAt a)) s).regs.withF (flags op (s.byteAt a))) [.read a, .write a (res op (s.byteAt a))]
    (∀ p ∈ [(Instr.rlcR, RotOp.rlc), (.rrcR, .rrc), (.rlR, .rl), (.rrR, .rr), (.slaR, .sla), (.sraR, .sra), (.srlR, .srl)],
      ∀ r, Completes (p.1 r) s (onReg p.2 r)) ∧
    (∀ p ∈ [(Instr.rlcAtHl, RotOp.rlc), (.rrcAtHl, .rrc), (.rlAtHl, .rl), (.rrAtHl, .rr), (.slaAtHl, .sla), (.sraAtHl, .sra),
        (.srlAtHl, .srl)], Completes p.1 s (onMem p.2 (getHl s) 15 4)) ∧
    (∀ p ∈ [(Instr.rlcAtIx, RotOp.rlc), (.rrcAtIx, .rrc), (.rlAtIx, .rl), (.rrAtIx, .rr), (.slaAtIx, .sla), (.sraAtIx, .sra),
        (.srlAtIx, .srl)], ∀ d, Completes (p.1 d) s (onMem p.2 (ea .ix d s) 23 6)) ∧
    (∀ p ∈ [(Instr.rlcAtIy, RotOp.rlc), (.rrcAtIy, .rrc), (.rlAtIy, .rl), (.rrAtIy, .rr), (.slaAtIy, .sla), (.sraAtIy, .sra),
        (.srlAtIy, .srl)], ∀ d, Completes (p.1 d) s (onMem p.2 (ea .iy d s) 23 6)) ∧
    (∀ p ∈ [(Instr.rlcAtIxR, RotOp.rlc), (.rrcAtIxR, .rrc), (.rlAtIxR, .rl), (.rrAtIxR, .rr), (.slaAtIxR, .sla), (.sraAtIxR, .sra),
        (.srlAtIxR, .srl)], ∀ d r, Completes (p.1 d r) s (onCopy p.2 (ea .ix d s) r 23 6)) ∧
    ∀ p ∈ [(Instr.rlcAtIyR, RotOp.rlc), (.rrcAtIyR, .rrc), (.rlAtIyR, .rl), (.rrAtIyR, .rr), (.slaAtIyR, .sla), (.sraAtIyR, .sra),
        (.srlAtIyR, .srl)], ∀ d r, Completes (p.1 d r) s (onCopy p.2 (ea .iy d s) r 23 6)

/-- BIT writes the flags alone: R680 to R683, R815. The rule leaves Y and X open after BIT b,(HL). -/
def Obligations.BitTestsComplete : Prop :=
  ∀ s : State,
    let flags (b : BitVec 3) (v yx : Byte) := s.regs.withF (bitFlags b v yx s.regs.f)
    let atEa (b : BitVec 3) (a : Word) := plain s (flags b (s.byteAt a) (hiByte a)) [.read a] 20 5
    (∀ b r, Completes (.bitR b r) s (plain s (flags b (getR r s) (getR r s)) [] 8 2)) ∧
    (∀ b, Completes (.bitAtHl b) s
      { regs := flags b (s.byteAt (getHl s)) 0#8, openF := 0x28#8, ctl := s.ctl, accesses := [.read (getHl s)], t := 12, n := 3 }) ∧
    (∀ d b, Completes (.bitAtIx d b) s (atEa b (ea .ix d s))) ∧
    (∀ d b, Completes (.bitAtIy d b) s (atEa b (ea .iy d s))) ∧
    (∀ d b r, Completes (.bitAtIxMirror d b r) s (atEa b (ea .ix d s))) ∧
    ∀ d b r, Completes (.bitAtIyMirror d b r) s (atEa b (ea .iy d s))

/-- SET and RES change one bit of a register or of a memory byte and no flag; the copying forms also write a register: R684 to R691, R815. -/
def Obligations.SetAndResetBitsComplete : Prop :=
  ∀ s : State, Memory.wf s.mem = true →
    let mask (b : BitVec 3) : Byte := 1#8 <<< b.toNat
    let on (b : BitVec 3) (v : Byte) := v ||| mask b
    let off (b : BitVec 3) (v : Byte) := v &&& ~~~mask b
    let atMem (g : Byte → Byte) (a : Word) := plain s s.regs [.read a, .write a (g (s.byteAt a))]
    let atCopy (g : Byte → Byte) (a : Word) (r : Reg8) :=
      plain s (setR r (g (s.byteAt a)) s).regs [.read a, .write a (g (s.byteAt a))] 23 6
    ∀ b,
      (∀ r, Completes (.setR b r) s (plain s (setR r (on b (getR r s)) s).regs [] 8 2)) ∧
      Completes (.setAtHl b) s (atMem (on b) (getHl s) 15 4) ∧
      (∀ d, Completes (.setAtIx d b) s (atMem (on b) (ea .ix d s) 23 6)) ∧
      (∀ d, Completes (.setAtIy d b) s (atMem (on b) (ea .iy d s) 23 6)) ∧
      (∀ d r, Completes (.setAtIxR d b r) s (atCopy (on b) (ea .ix d s) r)) ∧
      (∀ d r, Completes (.setAtIyR d b r) s (atCopy (on b) (ea .iy d s) r)) ∧
      (∀ r, Completes (.resR b r) s (plain s (setR r (off b (getR r s)) s).regs [] 8 2)) ∧
      Completes (.resAtHl b) s (atMem (off b) (getHl s) 15 4) ∧
      (∀ d, Completes (.resAtIx d b) s (atMem (off b) (ea .ix d s) 23 6)) ∧
      (∀ d, Completes (.resAtIy d b) s (atMem (off b) (ea .iy d s) 23 6)) ∧
      (∀ d r, Completes (.resAtIxR d b r) s (atCopy (off b) (ea .ix d s) r)) ∧
      ∀ d r, Completes (.resAtIyR d b r) s (atCopy (off b) (ea .iy d s) r)

/-! ### Jumps, calls and returns (47_jump_call_return.md) -/

/-- JP, JR and DJNZ change PC, DJNZ also B, and take the longer time when the jump is taken: R720 to R730. -/
def Obligations.JumpsComplete : Prop :=
  ∀ s : State,
    let rel (e : Byte) : Word := .ofInt 16 (s.regs.pc.toNat + e.toInt)
    let goto (pc : Word) := plain s { s.regs with pc := pc } []
    (∀ nn, Completes (.jpNn nn) s (goto nn 10 3)) ∧
    (∀ cc nn, Completes (.jpCcNn cc nn) s (goto (if condHolds cc s then nn else s.regs.pc) 10 3)) ∧
    (∀ e, Completes (.jr e) s (goto (rel e) 12 2)) ∧
    (∀ p ∈ [(Instr.jrNz, Cond.nz), (.jrZ, .z), (.jrNc, .nc), (.jrC, .c)], ∀ e,
      if condHolds p.2 s then Completes (p.1 e) s (goto (rel e) 12 2) else Completes (p.1 e) s (goto s.regs.pc 7 2)) ∧
    Completes .jpHl s (goto (getHl s) 4 1) ∧
    Completes .jpIx s (goto s.regs.ix 8 2) ∧
    Completes .jpIy s (goto s.regs.iy 8 2) ∧
    ∀ e, if s.regs.b = 1#8 then Completes (.djnz e) s (plain s { s.regs with b := 0#8 } [] 8 2)
      else Completes (.djnz e) s (plain s { s.regs with b := s.regs.b - 1#8, pc := rel e } [] 13 2)

/-- CALL and RST push PC and jump, RET pops it, RETN, RETI and the RETN mirrors also copy IFF2 to IFF1: R735 to R741, R817. -/
def Obligations.CallsAndReturnsComplete : Prop :=
  ∀ s : State, Memory.wf s.mem = true →
    let into (pc : Word) := plain s { s.regs with sp := s.regs.sp - 2#16, pc := pc } (writesWord (s.regs.sp - 2#16) s.regs.pc)
    let back := { s.regs with sp := s.regs.sp + 2#16, pc := s.wordAt s.regs.sp }
    let fromInt : Effect :=
      { regs := back, ctl := { s.ctl with iff1 := s.ctl.iff2 }, accesses := readsWord s.regs.sp, t := 14, n := 4 }
    (∀ nn, Completes (.callNn nn) s (into nn 17 5)) ∧
    (∀ cc nn, if condHolds cc s then Completes (.callCcNn cc nn) s (into nn 17 5)
      else Completes (.callCcNn cc nn) s (plain s s.regs [] 10 3)) ∧
    (∀ t, Completes (.rst t) s (into (.ofNat 16 (t.toNat * 8)) 11 3)) ∧
    Completes .ret s (plain s back (readsWord s.regs.sp) 10 3) ∧
    (∀ cc, if condHolds cc s then Completes (.retCc cc) s (plain s back (readsWord s.regs.sp) 11 3)
      else Completes (.retCc cc) s (plain s s.regs [] 5 1)) ∧
    Completes .retn s fromInt ∧
    Completes .reti s fromInt ∧
    ∀ y, Completes (.retnMirror y) s fromInt

/-! ### Input and output (48_io.md) -/

/-- Single port instructions: after the port access, which the statements on ports describe, IN writes its register and flags and nothing else
changes: R770, R771, R776, R777, R820, R821. The hypotheses say that the port access does not exhaust the event queue. -/
def Obligations.PortInstructionsComplete : Prop :=
  ∀ s : State,
    (∀ n, let p := portRead (.ofBytes s.regs.a n) s
      p.2.fault = none → CompletesFrom (.inAN n) s p.2 (plain p.2 { p.2.regs with a := p.1 } [] 11 3)) ∧
    (∀ r, let p := portRead (getBc s) s
      p.2.fault = none →
        CompletesFrom (.inRC r) s p.2 (plain p.2 ((setR r p.1 p.2).regs.withF (valueFlags p.1 p.2.regs.f)) [] 12 3)) ∧
    (let p := portRead (getBc s) s
     p.2.fault = none → CompletesFrom .inFC s p.2 (plain p.2 (p.2.regs.withF (valueFlags p.1 p.2.regs.f)) [] 12 3)) ∧
    (∀ n, let q := portWrite (.ofBytes s.regs.a n) s.regs.a s
      q.fault = none → CompletesFrom (.outNA n) s q (plain q q.regs [] 11 3)) ∧
    (∀ r, let q := portWrite (getBc s) (getR r s) s
      q.fault = none → CompletesFrom (.outCR r) s q (plain q q.regs [] 12 3)) ∧
    (let q := portWrite (getBc s) 0#8 s
     q.fault = none → CompletesFrom .outC0 s q (plain q q.regs [] 12 3))

/-- The block port instructions. Input: the port byte goes to HL, HL moves, B counts down after the port access. Output: the byte at HL is read,
B counts down before the port access, HL moves. Z is that of the new B, N is set, and R782 leaves the other six flags open. The repeating forms
run again, PC back by 2, while B is not 0: R772 to R775, R778 to R782. -/
def Obligations.BlockPortInstructionsComplete : Prop :=
  ∀ s : State, Memory.wf s.mem = true →
    let count := s.regs.b - 1#8
    let flags : Byte := if count = 0#8 then 0x42#8 else 0x02#8
    let p := portRead (getBc s) s
    let inDone (delta pc : Word) (t : Nat) : Effect :=
      { regs := { (setHl (getHl s + delta) p.2).regs with b := count, f := flags, pc := pc }, openF := 0xBD#8, ctl := p.2.ctl
        accesses := [.write (getHl s) p.1], t := t, n := 4 }
    let m := setR .b count (memCharge (getHl s) s)
    let q := portWrite (getBc m) (s.byteAt (getHl s)) m
    let outDone (delta pc : Word) (t : Nat) : Effect :=
      { regs := { (setHl (getHl s + delta) q).regs with f := flags, pc := pc }, openF := 0xBD#8, ctl := q.ctl, t := t, n := 4 }
    (p.2.fault = none →
      CompletesFrom .ini s p.2 (inDone 1#16 s.regs.pc 16) ∧
      CompletesFrom .ind s p.2 (inDone (-1#16) s.regs.pc 16) ∧
      (count = 0#8 → CompletesFrom .inir s p.2 (inDone 1#16 s.regs.pc 16) ∧ CompletesFrom .indr s p.2 (inDone (-1#16) s.regs.pc 16)) ∧
      (count ≠ 0#8 → CompletesFrom .inir s p.2 (inDone 1#16 (s.regs.pc - 2#16) 21) ∧
        CompletesFrom .indr s p.2 (inDone (-1#16) (s.regs.pc - 2#16) 21))) ∧
    (q.fault = none →
      CompletesFrom .outi s q (outDone 1#16 s.regs.pc 16) ∧
      CompletesFrom .outd s q (outDone (-1#16) s.regs.pc 16) ∧
      (count = 0#8 → CompletesFrom .otir s q (outDone 1#16 s.regs.pc 16) ∧ CompletesFrom .otdr s q (outDone (-1#16) s.regs.pc 16)) ∧
      (count ≠ 0#8 → CompletesFrom .otir s q (outDone 1#16 (s.regs.pc - 2#16) 21) ∧
        CompletesFrom .otdr s q (outDone (-1#16) (s.regs.pc - 2#16) 21)))

/-! ### Undocumented encodings (49_undocumented_and_fallback.md) -/

/-- The loads of the index halves and, under `CB_SLL_POLICY = nop2`, the sub-opcodes 30 to 37 of the CB tables, which do nothing: R811, R814. -/
def Obligations.IndexHalvesAndSllComplete : Prop :=
  ∀ s : State,
    (∀ n, Completes (.ldIxhN n) s (plain s { s.regs with ix := .ofBytes n (loByte s.regs.ix) } [] 11 3)) ∧
    (∀ n, Completes (.ldIxlN n) s (plain s { s.regs with ix := .ofBytes (hiByte s.regs.ix) n } [] 11 3)) ∧
    (∀ n, Completes (.ldIyhN n) s (plain s { s.regs with iy := .ofBytes n (loByte s.regs.iy) } [] 11 3)) ∧
    (∀ n, Completes (.ldIylN n) s (plain s { s.regs with iy := .ofBytes (hiByte s.regs.iy) n } [] 11 3)) ∧
    (∀ x ∈ [(Instr.ldRRIx, IndexMode.ix), (.ldRRIy, .iy)], ∀ r src,
      let v := match src with
        | .h => hiByte (getX x.2 s)
        | .l => loByte (getX x.2 s)
        | src => getR src s
      let g := match r with
        | .h => (setX x.2 (.ofBytes v (loByte (getX x.2 s))) s).regs
        | .l => (setX x.2 (.ofBytes (hiByte (getX x.2 s)) v) s).regs
        | r => (setR r v s).regs
      Completes (x.1 r src) s (plain s g [] 8 2)) ∧
    (∀ z, Completes (.sll z) s (plain s s.regs [] 8 2)) ∧
    (∀ d z, Completes (.sllAtIx d z) s (plain s s.regs [] 16 4)) ∧
    ∀ d z, Completes (.sllAtIy d z) s (plain s s.regs [] 16 4)

/-! ### The floppy disk controller (62_fdc.md) -/

/-- The commands of type 1, the controller not busy: the status is exactly 0x80, the motor countdown restarts, the head stays within 0 to 255
and the track register wraps. SEEK moves the head by the difference of the data and track registers. R1115, R1116, R1120 to R1128. -/
def Obligations.FdcSeekFamilyCompletes : Prop :=
  ∀ s : State, s.fdc.status.getLsbD 0 = false → ∀ side flags,
    let after (code : Byte) (g : Fdc → Fdc) (i : Instr) := exec i s = .next (s.mapFdc fun f => g (engagedFdc code side flags 0x80#8 f))
    let inward (f : Fdc) : Fdc := { f with head := min 255 (f.head + 1) }
    let outward (f : Fdc) : Fdc := { f with head := f.head - 1 }
    let inwardUpdate (f : Fdc) : Fdc := { inward f with track := f.track + 1#8 }
    let outwardUpdate (f : Fdc) : Fdc := { outward f with track := f.track - 1#8 }
    after 0x00#8 (fun f => { f with head := 0, track := 0#8, dirIn := false }) (.fdcRestore side flags) ∧
    (s.fdc.track.toNat < s.fdc.data.toNat → after 0x10#8
      (fun f => { f with dirIn := true, head := min 255 (f.head + (f.data.toNat - f.track.toNat)), track := f.data }) (.fdcSeek side flags)) ∧
    (s.fdc.data.toNat < s.fdc.track.toNat → after 0x10#8
      (fun f => { f with dirIn := false, head := f.head - (f.track.toNat - f.data.toNat), track := f.data }) (.fdcSeek side flags)) ∧
    (s.fdc.track = s.fdc.data → after 0x10#8 id (.fdcSeek side flags)) ∧
    after 0x20#8 (if s.fdc.dirIn then inward else outward) (.fdcStep side flags) ∧
    after 0x30#8 (if s.fdc.dirIn then inwardUpdate else outwardUpdate) (.fdcStepUpdate side flags) ∧
    after 0x40#8 (fun f => { inward f with dirIn := true }) (.fdcStepIn side flags) ∧
    after 0x50#8 (fun f => { inwardUpdate f with dirIn := true }) (.fdcStepInUpdate side flags) ∧
    after 0x60#8 (fun f => { outward f with dirIn := false }) (.fdcStepOut side flags) ∧
    after 0x70#8 (fun f => { outwardUpdate f with dirIn := false }) (.fdcStepOutUpdate side flags)

/-- The commands of types 2 and 3, the controller not busy: they engage the motor and go busy, status 0x81; a write command on a read-only disk
ends at once with status 0xC0. A free disk answers whether it is read-only by a draw (the model's form of it: log entry 12). R1115, R1116, R1130 to R1138. -/
def Obligations.FdcTransferCommandsComplete : Prop :=
  ∀ s : State, s.fdc.status.getLsbD 0 = false → ∀ side flags,
    (∀ p ∈ [(Instr.fdcReadSector, 0x80#8), (.fdcReadSectors, 0x90#8), (.fdcReadAddress, 0xC0#8), (.fdcReadTrack, 0xE0#8)],
      exec (p.1 side flags) s = .next (s.mapFdc (engagedFdc p.2 side flags 0x81#8))) ∧
    ∀ p ∈ [(Instr.fdcWriteSector, 0xA0#8), (.fdcWriteSectors, 0xB0#8), (.fdcWriteTrack, 0xF0#8)],
      (s.fdc.disk = none → exec (p.1 side flags) s = .next (s.mapFdc (engagedFdc p.2 side flags 0x81#8))) ∧
      (∀ d, s.fdc.disk = some (.image d) →
        exec (p.1 side flags) s = .next (s.mapFdc (engagedFdc p.2 side flags (if d.readOnly then 0xC0#8 else 0x81#8)))) ∧
      ∀ d, s.fdc.disk = some (.device d) → ∃ st : Byte, (st = 0x81#8 ∨ st = 0xC0#8) ∧
        exec (p.1 side flags) s = .next { s.mapFdc (engagedFdc p.2 side flags st) with draws := s.draws + 1 }

/-- FORCE_INTERRUPT is accepted in every state, busy or not, and its whole effect is the common part of a command write; it is the only command
accepted while the controller is busy: every other one then leaves the whole machine as it was. A status read after it has the type 1
meanings: bit 2 is TRACK00. R1135, R1115. -/
def Obligations.FdcForceInterruptCompletes : Prop :=
  ∀ (s : State) (side : Bool) (flags : BitVec 4),
    (decodeFdcCommand side (0xD#4 ++ flags) = .fdcForceInterrupt side flags ∧
      exec (.fdcForceInterrupt side flags) s = .next (s.mapFdc (acceptedFdc 0xD0#8 side flags)) ∧
      (fdcStatusRead (s.mapFdc (acceptedFdc 0xD0#8 side flags))).1.getLsbD 2 = decide (s.fdc.head = 0)) ∧
    (s.fdc.status.getLsbD 0 = true →
      ∀ c ∈ [Instr.fdcRestore, .fdcSeek, .fdcStep, .fdcStepUpdate, .fdcStepIn, .fdcStepInUpdate, .fdcStepOut, .fdcStepOutUpdate,
        .fdcReadSector, .fdcReadSectors, .fdcWriteSector, .fdcWriteSectors, .fdcReadAddress, .fdcReadTrack, .fdcWriteTrack],
        exec (c side flags) s = .next s)

/-- A port of the controller reaches one register by its two low bits, after the port charge: 0 the command of the byte written, for the side of
port bit 2, or the status; 1 the track and 2 the sector register; 3 the data register. R1102, R1103, R1160, R1161. -/
def Obligations.FdcPortsReachRegisters : Prop :=
  ∀ (s : State) (port : Word) (v : Byte), 0xE0 ≤ (loByte port).toNat → (loByte port).toNat ≤ 0xE7 →
    let c := { s with clock := { s.clock with lineCycle := s.clock.lineCycle + 4 } }
    (port.toNat % 4 = 0 → exec (decodeFdcCommand (port.getLsbD 2) v) c = .next (portWrite port v s) ∧ portRead port s = fdcStatusRead c) ∧
    (port.toNat % 4 = 1 →
      portWrite port v s = { c with fdc := { s.fdc with track := v } } ∧ portRead port s = (s.fdc.track, c)) ∧
    (port.toNat % 4 = 2 →
      portWrite port v s = { c with fdc := { s.fdc with sector := v } } ∧ portRead port s = (s.fdc.sector, c)) ∧
    (port.toNat % 4 = 3 → portWrite port v s = fdcDataWrite v c ∧ portRead port s = fdcDataRead c)

/-- A status read that does not advance a command: after types 1 and 4 it adds TRACK00 at head 0 and the index pulse of each 1024th counted
read to the byte returned, never to the stored status; after types 2 and 3 it changes nothing. R1140, R1141. -/
def Obligations.FdcStatusReadAtRest : Prop :=
  ∀ s : State, (s.fdc.status.getLsbD 0 = false ∨ s.fdc.status.getLsbD 1 = true) →
    let seek := s.fdc.cmd.getLsbD 7 = false ∨ s.fdc.cmd = 0xD0#8
    let counts := s.fdc.status.getLsbD 7 = true ∧ s.fdc.disk.isSome = true
    let track00 : Byte := if s.fdc.head = 0 then 0x04#8 else 0#8
    (¬seek → fdcStatusRead s = (s.fdc.status, s)) ∧
    (seek → ¬counts → fdcStatusRead s = (s.fdc.status ||| track00, s)) ∧
    (seek → counts → fdcStatusRead s =
      (s.fdc.status ||| track00 ||| (if (s.fdc.idxCount + 1) % 1024 = 0 then 0x02#8 else 0#8),
        { s with fdc := { s.fdc with idxCount := s.fdc.idxCount + 1 } }))

/-- A status read of a command in flight that transfers nothing yet runs it on, and has one of three ends: the disk was busy and nothing of the
controller changed; a transfer of at least one byte is armed; or the command is over with an error bit (of a free disk this rests on log
entry 14). The CPU, the memory and the event queue see none of it. R1142. -/
def Obligations.FdcLazyExecution : Prop :=
  ∀ s : State, diskOk s.fdc.disk → s.fdc.status.getLsbD 0 = true → s.fdc.status.getLsbD 1 = false →
    s.fdc.cmd ∈ [0x80#8, 0x90#8, 0xA0#8, 0xB0#8, 0xC0#8, 0xE0#8, 0xF0#8] →
    let t := (fdcStatusRead s).2
    (fdcStatusRead s).1 = t.fdc.status ∧
    (t.fdc = s.fdc ∨
      (t.fdc.status.getLsbD 0 = true ∧ t.fdc.status.getLsbD 1 = true ∧ t.fdc.bufPos = 0 ∧ 0 < t.fdc.bufLen) ∨
      (t.fdc.status.getLsbD 0 = false ∧ t.fdc.status &&& 0x78#8 ≠ 0#8)) ∧
    t.fdc.cmd = s.fdc.cmd ∧ t.fdc.side = s.fdc.side ∧ t.fdc.head = s.fdc.head ∧ t.fdc.track = s.fdc.track ∧
    t.fdc.sector = s.fdc.sector ∧ t.fdc.data = s.fdc.data ∧ t.fdc.motorFrames = s.fdc.motorFrames ∧
    t.regs = s.regs ∧ t.ctl = s.ctl ∧ t.clock = s.clock ∧ t.sig = s.sig ∧ t.events = s.events ∧ t.mem = s.mem ∧ t.paging = s.paging ∧
    t.fault = s.fault

/-- The data register: one byte a read or a write while a transfer of that direction is armed; the last one clears DRQ and runs the completion
of the command; without a transfer a read changes nothing and a write changes the data register alone. A write puts its byte at the buffer's
position, whatever the buffer held, and leaves its other bytes. R1150, R1151. -/
def Obligations.FdcDataRegister : Prop :=
  ∀ (s : State) (v : Byte),
    let armed := s.fdc.status.getLsbD 1 = true
    let write := s.fdc.cmd = 0xA0#8 ∨ s.fdc.cmd = 0xB0#8 ∨ s.fdc.cmd = 0xF0#8
    let last := s.fdc.bufPos + 1 = s.fdc.bufLen
    let x := s.fdc.buf.getD s.fdc.bufPos 0#8
    let read : Fdc := { s.fdc with data := x, bufPos := s.fdc.bufPos + 1 }
    let written : Fdc := { s.fdc with data := v, bufPos := s.fdc.bufPos + 1, buf := putAt s.fdc.buf s.fdc.bufPos v }
    let done (f : Fdc) : State := complete { s with fdc := { f with status := f.status &&& 0xFD#8 } }
    (¬(armed ∧ ¬write) → fdcDataRead s = (s.fdc.data, s)) ∧
    (armed → ¬write → ¬last → fdcDataRead s = (x, { s with fdc := read })) ∧
    (armed → ¬write → last → fdcDataRead s = (x, done read)) ∧
    (¬(armed ∧ write) → fdcDataWrite v s = { s with fdc := { s.fdc with data := v } }) ∧
    (armed → write → ¬last → fdcDataWrite v s = { s with fdc := written }) ∧
    (armed → write → last → fdcDataWrite v s = done written) ∧
    ∀ k, written.buf.getD k 0#8 = if k = s.fdc.bufPos then v else s.fdc.buf.getD k 0#8

/-- Completion at the last byte, command by command: the held-back data status is reported only now, a multi-sector command goes on to the next
sector, a write command flushes the buffer to the disk, a format write replaces the track under the head. A free disk answers a flush with a
draw of WRITE_PROTECT, RECORD_NOT_FOUND and WRITE_FAULT, a format write with one of WRITE_PROTECT (the model's form of it: log entry 12).
R1152, R1105. -/
def Obligations.FdcCompletion : Prop :=
  ∀ s : State,
    let ended (st : Byte) (f : Fdc) : State := { s with fdc := { f with status := (f.status ||| st) &&& 0xFE#8 } }
    let next (f : Fdc) : State := executeNext { s with fdc := { f with sector := f.sector + 1#8 } }
    let bytes := s.fdc.buf.take s.fdc.bufLen
    (s.fdc.cmd = 0x80#8 → complete s = ended s.fdc.dataStatus s.fdc) ∧
    (s.fdc.cmd = 0x90#8 → s.fdc.dataStatus.getLsbD 3 = false → complete s = next s.fdc) ∧
    (s.fdc.cmd = 0x90#8 → s.fdc.dataStatus.getLsbD 3 = true → complete s = ended 0x08#8 s.fdc) ∧
    (s.fdc.cmd = 0xC0#8 → complete s = ended s.fdc.dataStatus { s.fdc with sector := s.fdc.id.id.track }) ∧
    (s.fdc.cmd = 0xE0#8 → complete s = ended 0#8 s.fdc) ∧
    (s.fdc.disk = none → s.fdc.cmd ∈ [0xA0#8, 0xB0#8, 0xF0#8] → complete s = ended 0x10#8 s.fdc) ∧
    (∀ d, s.fdc.disk = some (.image d) →
      let w := imageWriteData bytes d
      let m := imageFormatTrack ⟨s.fdc.side, s.fdc.head⟩ (parseFormat s.fdc.buf s.fdc.bufLen) d
      (s.fdc.cmd = 0xA0#8 → complete s = ended w.1 { s.fdc with disk := some (.image w.2) }) ∧
      (s.fdc.cmd = 0xB0#8 → w.1 = 0#8 → complete s = next { s.fdc with disk := some (.image w.2) }) ∧
      (s.fdc.cmd = 0xB0#8 → w.1 ≠ 0#8 → complete s = ended w.1 { s.fdc with disk := some (.image w.2) }) ∧
      (s.fdc.cmd = 0xF0#8 → complete s = ended m.1 { s.fdc with disk := some (.image m.2) })) ∧
    ∀ d, s.fdc.disk = some (.device d) →
      let drawn (t : State) : State := { t with draws := s.draws + 1 }
      let answer := (Config.diskAnswer s.draws).status
      let w := answer &&& 0x70#8
      (s.fdc.cmd = 0xA0#8 → complete s = drawn (ended w s.fdc)) ∧
      (s.fdc.cmd = 0xB0#8 → w = 0#8 → complete s = executeNext (drawn { s with fdc := { s.fdc with sector := s.fdc.sector + 1#8 } })) ∧
      (s.fdc.cmd = 0xB0#8 → w ≠ 0#8 → complete s = drawn (ended w s.fdc)) ∧
      (s.fdc.cmd = 0xF0#8 → complete s = drawn (ended (answer &&& 0x40#8) s.fdc))

/-- The sector search on the reference disk takes the first sector, in spin order, of the track under the head on the latched side whose ID names
the track and sector registers and has a good CRC, and leaves the disk's iterator on it; with none it ends the command with
RECORD_NOT_FOUND, and CRC_ERROR too where a matching ID had a bad CRC. R1145, R1106. -/
def Obligations.FdcSectorSearch : Prop :=
  ∀ (s : State) (d : DiskImage), s.fdc.disk = some (.image d) →
    let sectors := (findTrack ⟨s.fdc.side, s.fdc.head⟩ d.tracks).getD []
    let r := findSector s
    (∀ x, sectors.find? (fun x => matchesId s.fdc x && !x.idCrcErr) = some x →
      r.1 = some x.id ∧ r.2.fdc.status = s.fdc.status ∧ ∃ e, r.2.fdc.disk = some (.image e) ∧ imageLast e = some x ∧ e.tracks = d.tracks) ∧
    (sectors.find? (fun x => matchesId s.fdc x && !x.idCrcErr) = none →
      r.1 = none ∧
      r.2.fdc.status = (s.fdc.status ||| 0x10#8 ||| (if sectors.any (matchesId s.fdc) then 0x08#8 else 0#8)) &&& 0xFE#8)

/-- What a status read of a command in flight puts into the buffer, its length, the ID field and the status. On the reference disk: a read whose
sector is found arms the transfer of the sector's own bytes, the record type shows at once, a data CRC error is held back, and an ID without
a data field ends the command; a write arms a transfer of the sector's size and leaves the buffer; READ_ADDRESS arms the six bytes of the
track's first ID, its CRC spoilt where the ID's is bad, or ends the command where there is none; READ_TRACK arms the raw stream of the
track's sectors; WRITE_TRACK arms a transfer of 6250 bytes. On any disk: what is armed has the length of its command, and the ID field kept
is one that was asked for, with its CRC. R1143, R1144, R1146, R1147, R1148; the free disk's form: log entry 12. -/
def Obligations.FdcReadArmsSector : Prop :=
  (∀ (s : State) (d : DiskImage), s.fdc.disk = some (.image d) → s.fdc.status.getLsbD 0 = true → s.fdc.status.getLsbD 1 = false →
    let sectors := (findTrack ⟨s.fdc.side, s.fdc.head⟩ d.tracks).getD []
    let f := (fdcStatusRead s).2.fdc
    let failed := f.status = (s.fdc.status ||| 0x10#8) &&& 0xFE#8 ∧ f.buf = s.fdc.buf ∧ f.bufLen = s.fdc.bufLen
    let armed (buf : List Byte) (len : Nat) (held shown : Byte) (id : FoundId) :=
      f.buf = buf ∧ f.bufLen = len ∧ f.bufPos = 0 ∧ f.dataStatus = held ∧ f.status = s.fdc.status ||| 0x02#8 ||| shown ∧ f.id = id
    let bad (b : Bool) : Byte := if b then 0x08#8 else 0#8
    let deleted (x : Sector) : Byte := if x.deleted then 0x20#8 else 0#8
    let kept (x : Sector) : FoundId := ⟨x.id, hiByte (idCrc x.id), loByte (idCrc x.id)⟩
    (∀ x, sectors.find? (fun x => matchesId s.fdc x && !x.idCrcErr) = some x →
      ((s.fdc.cmd = 0x80#8 ∨ s.fdc.cmd = 0x90#8) → x.hasData = true →
        armed x.data x.data.length (bad x.dataCrcErr) (deleted x) (kept x)) ∧
      ((s.fdc.cmd = 0x80#8 ∨ s.fdc.cmd = 0x90#8) → x.hasData = false → failed ∧ f.id = kept x) ∧
      ((s.fdc.cmd = 0xA0#8 ∨ s.fdc.cmd = 0xB0#8) → armed s.fdc.buf (128 * 2 ^ (x.id.size.toNat % 4)) 0#8 0#8 (kept x))) ∧
    (s.fdc.cmd = 0xC0#8 → sectors = [] → failed ∧ f.id = s.fdc.id) ∧
    (s.fdc.cmd = 0xC0#8 → ∀ x rest, sectors = x :: rest →
      let c := idCrc x.id ^^^ (if x.idCrcErr then 0xFFFF#16 else 0#16)
      armed [x.id.track, x.id.side, x.id.sector, x.id.size, hiByte c, loByte c] 6 (bad x.idCrcErr) 0#8 ⟨x.id, hiByte c, loByte c⟩) ∧
    (s.fdc.cmd = 0xE0#8 → armed
      (rawTrack (sectors.map fun x =>
        if x.hasData then ⟨x.id, bad x.idCrcErr, x.data, bad x.dataCrcErr ||| deleted x⟩ else ⟨x.id, bad x.idCrcErr, [], 0x10#8⟩))
      6250 0#8 0#8 s.fdc.id) ∧
    (s.fdc.cmd = 0xF0#8 → armed s.fdc.buf 6250 0#8 0#8 s.fdc.id) ∧
    (s.fdc.cmd ∈ [0x80#8, 0x90#8, 0xA0#8, 0xB0#8, 0xC0#8, 0xE0#8, 0xF0#8] → (fdcStatusRead s).1 = f.status)) ∧
  ∀ s : State, s.fdc.status.getLsbD 0 = true → s.fdc.status.getLsbD 1 = false →
    let f := (fdcStatusRead s).2.fdc
    let size := 128 * 2 ^ (f.id.id.size.toNat % 4)
    let asked := f.id.id.track = s.fdc.track ∧ f.id.id.sector = s.fdc.sector ∧
      f.id.crcHi = hiByte (idCrc f.id.id) ∧ f.id.crcLo = loByte (idCrc f.id.id)
    f.status.getLsbD 1 = true →
      f.bufPos = 0 ∧
      ((s.fdc.cmd = 0x80#8 ∨ s.fdc.cmd = 0x90#8) →
        asked ∧ f.bufLen = f.buf.length ∧ (∀ d, s.fdc.disk = some (.device d) → f.bufLen = size)) ∧
      ((s.fdc.cmd = 0xA0#8 ∨ s.fdc.cmd = 0xB0#8) → asked ∧ f.bufLen = size ∧ f.buf = s.fdc.buf) ∧
      (s.fdc.cmd = 0xC0#8 →
        f.bufLen = 6 ∧ f.buf = [f.id.id.track, f.id.id.side, f.id.id.sector, f.id.id.size, f.id.crcHi, f.id.crcLo]) ∧
      (s.fdc.cmd = 0xE0#8 → f.bufLen = 6250 ∧ ∃ ss, f.buf = rawTrack ss) ∧
      (s.fdc.cmd = 0xF0#8 → f.bufLen = 6250 ∧ f.buf = s.fdc.buf)

/-- The CRC of the disk format: its table, its fold, the two uses of it, the laws and the reference values. R1170. -/
def Obligations.CrcLaws : Prop :=
  (∀ i : Byte, crcTable i =
    (fun c : Word => if c &&& 0x8000#16 ≠ 0#16 then (c <<< 1) ^^^ 0x1021#16 else c <<< 1)^[8] (Word.ofBytes i 0#8)) ∧
  (∀ c, crc [] c = c) ∧
  (∀ b l c, crc (b :: l) c = crc l ((c <<< 8) ^^^ crcTable (hiByte c ^^^ b))) ∧
  (∀ a b c, crc (a ++ b) c = crc b (crc a c)) ∧
  (∀ m c, crc (m ++ [hiByte (crc m c), loByte (crc m c)]) c = 0#16) ∧
  (∀ id : IdField, idCrc id = crc [0xA1#8, 0xA1#8, 0xA1#8, 0xFE#8, id.track, id.side, id.sector, id.size] 0xFFFF#16) ∧
  (∀ mark data, dataCrc mark data = crc ([0xA1#8, 0xA1#8, 0xA1#8, mark] ++ data) 0xFFFF#16) ∧
  crcTable 1#8 = 0x1021#16 ∧ crcTable 2#8 = 0x2042#16 ∧ crcTable 0x80#8 = 0x9188#16 ∧ crcTable 0xFF#8 = 0x1EF0#16 ∧
  crc [0x31#8, 0x32#8, 0x33#8, 0x34#8, 0x35#8, 0x36#8, 0x37#8, 0x38#8, 0x39#8] 0xFFFF#16 = 0x29B1#16 ∧
  crc [0xA1#8, 0xA1#8, 0xA1#8] 0xFFFF#16 = 0xCDB4#16 ∧ crc [0xA1#8, 0xA1#8, 0xA1#8, 0xFE#8] 0xFFFF#16 = 0xB230#16 ∧
  crc [0xA1#8, 0xA1#8, 0xA1#8, 0xFB#8] 0xFFFF#16 = 0xE295#16 ∧ crc [0xA1#8, 0xA1#8, 0xA1#8, 0xF8#8] 0xFFFF#16 = 0xD2F6#16 ∧
  idCrc ⟨0, 0, 1, 2⟩ = 0xCA6F#16

/-- The raw track stream is exactly 6250 bytes, begins with its lead-in, and holds the ID and data fields of its first sector where the layout
puts them. The parse of a format write goes through its buffer from position 3 as the loop of R1172 does: an ID mark behind three sync bytes is
kept, a data mark with an ID pending gives a sector or, cut short, ends the parse, every other byte is passed over. R1171, R1172. -/
def Obligations.RawTrackStream : Prop :=
  (∀ ss : List TrackSector,
    (rawTrack ss).length = 6250 ∧
    (rawTrack ss).take 80 = List.replicate 80 0x4E#8 ∧
    ((rawTrack ss).drop 92).take 4 = [0xC2#8, 0xC2#8, 0xC2#8, 0xFC#8] ∧
    ∀ x rest, ss = x :: rest →
      ((rawTrack ss).drop 158).take 8 = [0xA1#8, 0xA1#8, 0xA1#8, 0xFE#8, x.id.track, x.id.side, x.id.sector, x.id.size] ∧
      (x.idStatus = 0#8 → ((rawTrack ss).drop 166).take 2 = [hiByte (idCrc x.id), loByte (idCrc x.id)]) ∧
      (x.dataStatus.getLsbD 4 = false → ((rawTrack ss).drop 202).take 4 =
        [0xA1#8, 0xA1#8, 0xA1#8, if x.dataStatus.getLsbD 5 then 0xF8#8 else 0xFB#8]) ∧
      (x.dataStatus.getLsbD 4 = false → x.data.length ≤ 6044 → ((rawTrack ss).drop 206).take x.data.length = x.data)) ∧
  ∀ (buf : List Byte) (len : Nat), ∃ parse : Nat → Option IdField → List (IdField × List Byte),
    parseFormat buf len = parse 3 none ∧
    ∀ (p : Nat) (pending : Option IdField),
      let at_ (k : Nat) : Byte := buf.getD k 0#8
      let synced := at_ (p - 3) = 0xF5#8 ∧ at_ (p - 2) = 0xF5#8 ∧ at_ (p - 1) = 0xF5#8
      let idMark := synced ∧ at_ p = 0xFE#8 ∧ p + 4 < len
      let dataMark := synced ∧ (at_ p = 0xFB#8 ∨ at_ p = 0xF8#8)
      let size (id : IdField) := 128 * 2 ^ (id.size.toNat % 4)
      (len ≤ p → parse p pending = []) ∧
      (p < len → idMark → parse p pending = parse (p + 5) (some ⟨at_ (p + 1), at_ (p + 2), at_ (p + 3), at_ (p + 4)⟩)) ∧
      (∀ id, p < len → dataMark → pending = some id → len < p + 1 + size id → parse p pending = []) ∧
      (∀ id, p < len → dataMark → pending = some id → p + 1 + size id ≤ len →
        parse p pending = (id, (buf.drop (p + 1)).take (size id)) :: parse (p + 1 + size id) none) ∧
      (p < len → ¬idMark → ¬(dataMark ∧ pending ≠ none) → parse p pending = parse (p + 1) pending)

/-- The frame tick counts the motor down, clears MOTOR_ON when the count runs out, and does nothing else. R1180. -/
def Obligations.FdcFrameTick : Prop :=
  ∀ s : State,
    (s.fdc.motorFrames = 0 → fdcFrameTick s = s) ∧
    (s.fdc.motorFrames = 1 → fdcFrameTick s = { s with fdc := { s.fdc with motorFrames := 0, status := s.fdc.status &&& 0x7F#8 } }) ∧
    (1 < s.fdc.motorFrames → fdcFrameTick s = { s with fdc := { s.fdc with motorFrames := s.fdc.motorFrames - 1 } })

/-! ### Reset and interrupts (70_reset_and_hazards.md, 60_exceptions.md) -/

/-- What `Reset()` sets and what it leaves; the registers the rule calls unspecified are not spoken of. R1200, R1181. -/
def Obligations.ResetProcedure : Prop :=
  ∀ s : State,
    let t := resetMachine s
    (t.regs.pc = 0#16 ∧ t.regs.ix = 0xFFFF#16 ∧ t.regs.iy = 0xFFFF#16 ∧ t.regs.f = 0x40#8 ∧ t.regs.i = 0#8 ∧ t.regs.r = 0#8) ∧
    (t.ctl.iff1 = false ∧ t.ctl.iff2 = false ∧ t.ctl.im = .im0 ∧ t.ctl.halted = false ∧ t.ctl.idx = .hl ∧ t.ctl.idxNext = .hl ∧
      t.ctl.afterEiDi = false) ∧
    t.sig = { s.sig with resetPending := false, nmiPending := false, intStatus := 0xFF#8 } ∧
    t.clock = { s.clock with frameEnd := false, maybeContended := decide (68 ≤ s.clock.line ∧ s.clock.line ≤ 259) } ∧
    t.fdc =
      { status := 0#8, cmd := 0#8, flags := 0#4, track := 0#8, sector := 0#8, data := 0#8, side := false, head := 0, state := 0,
        bufPos := 0, bufLen := 0, dataStatus := 0#8, idxCount := 0, motorFrames := 0, dirIn := true, buf := t.fdc.buf, id := t.fdc.id
        disk := s.fdc.disk } ∧
    (fdcStatusRead t).1 = 0x04#8 ∧
    t.mem = s.mem ∧ t.events = s.events ∧ t.paging = s.paging ∧ t.fault = s.fault

/-- The state after power-on, in every field to which the spec gives a value. R191, R1040, R1201. -/
def Obligations.PowerOnState : Prop :=
  let s := State.reset
  (s.regs.pc = 0#16 ∧ s.regs.ix = 0xFFFF#16 ∧ s.regs.iy = 0xFFFF#16 ∧ s.regs.f = 0x40#8 ∧ s.regs.i = 0#8 ∧ s.regs.r = 0#8) ∧
  (s.ctl.iff1 = false ∧ s.ctl.iff2 = false ∧ s.ctl.im = .im0 ∧ s.ctl.halted = false ∧ s.ctl.idx = .hl ∧ s.ctl.idxNext = .hl ∧
    s.ctl.afterEiDi = false) ∧
  s.clock = { lineCycle := 0, lineCycleMark := 0, cycleCounter := 0, line := 0, maybeContended := false, frameEnd := false } ∧
  s.sig = { nmiPending := false, resetPending := false, paused := false, intStatus := 0xFF#8, asicAsleep := true } ∧
  s.events = [⟨.frameIntStart, 0⟩, ⟨.asicReady, 49152⟩, ⟨.inputUpdate, 59904⟩] ∧
  (s.fdc.status = 0#8 ∧ s.fdc.cmd = 0#8 ∧ s.fdc.flags = 0#4 ∧ s.fdc.track = 0#8 ∧ s.fdc.sector = 0#8 ∧ s.fdc.data = 0#8 ∧
    s.fdc.side = false ∧ s.fdc.head = 0 ∧ s.fdc.state = 0 ∧ s.fdc.bufPos = 0 ∧ s.fdc.bufLen = 0 ∧ s.fdc.dataStatus = 0#8 ∧
    s.fdc.idxCount = 0 ∧ s.fdc.motorFrames = 0 ∧ s.fdc.dirIn = true ∧ s.fdc.disk = none) ∧
  (∀ a, pageOf a s = a.toNat / 16384 ∧ writable a s = true) ∧ s.fault = none

/-- When a maskable interrupt is accepted, and what its acceptance saves and where it goes: PC, past the HALT of a halted CPU, is pushed, both
enable flip-flops clear, R counts, PC is 0x0038 in modes 0 and 1 and in mode 2 the word of the table at I : 0xFF, read after the push.
R905, R906, R910, R911, R912. -/
def Obligations.MaskableInterrupt : Prop :=
  ∀ s : State, Memory.wf s.mem = true →
    let accepts := s.sig.intStatus &&& 0x1F#8 ≠ 0x1F#8 ∧ s.ctl.iff1 = true ∧ s.ctl.afterEiDi = false ∧ s.ctl.idx = .hl
    let back := if s.ctl.halted then s.regs.pc + 1#16 else s.regs.pc
    let push := writesWord (s.regs.sp - 2#16) back
    let regs (pc : Word) := { s.regs with pc := pc, sp := s.regs.sp - 2#16, r := refreshed s.regs.r }
    let ctl := { s.ctl with iff1 := false, iff2 := false, halted := false }
    let va := Word.ofBytes s.regs.i 0xFF#8
    let pushed := bytesAfter push s
    (¬accepts → acceptInterrupt s = s) ∧
    (accepts → s.ctl.im ≠ .im2 →
      HasEffect (acceptInterrupt s) s { regs := regs 0x0038#16, ctl := ctl, accesses := push, t := 13, n := 2 }) ∧
    (accepts → s.ctl.im = .im2 → HasEffect (acceptInterrupt s) s
      { regs := regs (.ofBytes (pushed (va + 1#16)) (pushed va)), ctl := ctl, accesses := push ++ readsWord va, t := 19, n := 4 })

/-- The pseudo-interrupts of a frame boundary: a pending reset comes first; else a pending NMI, the CPU not held and not between a prefix and its
opcode, pushes PC, clears IFF1 alone and goes to 0x0066; else nothing happens and a pending NMI stays pending. R920, R921, R943. -/
def Obligations.PseudoInterrupts : Prop :=
  ∀ s : State, Memory.wf s.mem = true →
    let takes := s.sig.nmiPending = true ∧ s.sig.paused = false ∧ s.ctl.idx = .hl
    let back := if s.ctl.halted then s.regs.pc + 1#16 else s.regs.pc
    (s.sig.resetPending = true → pseudoInterrupts s = resetMachine s) ∧
    (s.sig.resetPending = false → ¬takes → pseudoInterrupts s = s) ∧
    (s.sig.resetPending = false → takes →
      HasEffect (pseudoInterrupts s) { s with sig := { s.sig with nmiPending := false } }
        { regs := { s.regs with pc := 0x0066#16, sp := s.regs.sp - 2#16, r := refreshed s.regs.r }
          ctl := { s.ctl with iff1 := false, halted := false }
          accesses := writesWord (s.regs.sp - 2#16) back
          t := 11
          n := 2 })

/-! ### The step (60_exceptions.md) -/

/-- A running machine runs the instruction it decodes: after the event check and the acceptance of an interrupt, the bytes at PC are fetched, the
instruction they decode to is executed on the state after the fetch (a prefix byte of CB, ED, DD CB or FD CB goes on to the opcode of its
table in the same step), and the step ends by moving the index mode on and recording whether it was EI or DI. A halted CPU instead reads
the byte at PC, discards it and counts R. R900, R606, R121, R122. The model's own: the `table` latch (log entry 10), the instruction's bytes fetched
before its Operation (log entry 17), the sub-opcode after an index prefix and ED counted in R (log entry 22). -/
def Obligations.StepRunsDecodedInstruction : Prop :=
  ∀ s : State, s.Running → s.ctl.table = .main → (eventCheck s).fault = none →
    let a := acceptInterrupt (eventCheck s)
    let at_ (x : State) (k : Word) : Byte := x.byteAt (x.regs.pc + k)
    let closed (eiDi : Bool) (t : State) : State := { t with ctl := { t.ctl with afterEiDi := eiDi, idx := t.ctl.idxNext, idxNext := .hl } }
    let ended (i : Instr) (t : State) : State := if t.fault = none then closed (i = .ei || i = .di) t else t
    (a.ctl.halted = false → ∀ i n t, decodeOp .main a.ctl.idx (at_ a 0#16) (at_ a 1#16) (at_ a 2#16) = (i, n) →
      exec i (fetched n true a) = .next t →
      (t.ctl.table = .main → step s = .next (ended i t)) ∧
      (t.ctl.table ≠ .main → ∀ j m u, decodeOp t.ctl.table t.ctl.idx (at_ t 0#16) (at_ t 1#16) (at_ t 2#16) = (j, m) →
        exec j (fetched m (t.ctl.table = .cb || t.ctl.table = .ed) t) = .next u → step s = .next (ended j u))) ∧
    (a.ctl.halted = true → step s = .next (closed false
      { a with
        regs := { a.regs with r := refreshed a.regs.r }
        clock := { a.clock with lineCycle := cyclesAfter [.read a.regs.pc] 0 0 a } }))

/-- Without a fault every step answers a next state, that of the frame boundary where the frame has ended or the CPU is held; a machine that has
a fault has no step. The frame boundary restarts the scanlines of an ended frame, then runs the frame tick of the controller, the host's services
and, unless they raised the fault, the pseudo-interrupts. R900, R941, R942, R950, R961. The place of the host is log entry 9's. That a frame
boundary is a step and how the fault shows are the model's choices (log entries 15 and 16). -/
def Obligations.StepAnswersOrStops : Prop :=
  ∀ s : State,
    (s.fault = none → ∃ t, step s = .next t) ∧
    (s.fault = none → (s.clock.frameEnd = true ∨ s.sig.paused = true) → step s = .next (frameBoundary s)) ∧
    (∀ f, s.fault = some f → step s = .fault f) ∧
    (s.fault = none → s.clock.frameEnd = false → s.sig.paused = false → (eventCheck s).fault ≠ none → step s = .next (eventCheck s)) ∧
    closeFrame s = { s with clock := if s.clock.frameEnd then
      { s.clock with frameEnd := false, line := 0, maybeContended := false } else s.clock } ∧
    (let t := hostServices (fdcFrameTick (closeFrame s))
     (t.fault = none → frameBoundary s = pseudoInterrupts t) ∧ (t.fault ≠ none → frameBoundary s = t))

/-- No instruction traps, faults or is refused: each of them answers a next state in every state and with all operands. R950, R330. -/
def Obligations.EveryInstructionCompletes : Prop := ∀ (i : Instr) (s : State), ∃ t, exec i s = .next t

/-! ### Encodings (30_encoding.md) -/

/-- A few instructions decode from the words the rules of their encodings give: one of each family. -/
def Obligations.SampleWordsDecode : Prop :=
  decode .cpu [0x3E#8, 0x12#8] = .ok (.ldRN .a 0x12#8, []) ∧
  decode .cpu [0x22#8, 0x34#8, 0x12#8] = .ok (.ldAtNnHl 0x1234#16, []) ∧
  decode .cpu [0xED#8, 0xB0#8] = .ok (.ldir, []) ∧
  decode .cpu [0x86#8] = .ok (.addAAtHl, []) ∧
  decode .cpu [0xED#8, 0x5E#8] = .ok (.im2, []) ∧
  decode .cpu [0xED#8, 0x4A#8] = .ok (.adcHlSs .bc, []) ∧
  decode .cpu [0xDD#8, 0xCB#8, 0x05#8, 0x46#8] = .ok (.bitAtIx 0x05#8 0#3, []) ∧
  decode .cpu [0xFF#8] = .ok (.rst 7#3, []) ∧
  decode .cpu [0xED#8, 0x50#8] = .ok (.inRC .d, []) ∧
  decode .cpu [0xFD#8, 0x26#8, 0xA5#8] = .ok (.ldIyhN 0xA5#8, []) ∧
  decode (.fdcCommand true) [0x8F#8] = .ok (.fdcReadSector true 0xF#4, [])

/-- Decoding the encoding of a well-formed instruction gives it back, and, where it is no prefix byte, whatever bytes follow it. -/
def Obligations.DecodeEncodeRoundTrip : Prop :=
  ∀ i : Instr, WellFormed i = true →
    decode i.space (encode i) = .ok (i, []) ∧
    (i.chase = none → ∀ rest, decode i.space (encode i ++ rest) = .ok (i, rest))

/-- Every byte sequence decodes, in every table and under every index mode, to a well-formed instruction of one to three bytes, and encoding that
instruction gives the bytes back behind the prefix bytes that lead to that table under that index mode: none in the main table; the index
prefix where the opcode is one it affects; CB, ED, DD CB or FD CB in the other tables. The ED byte behind either index prefix is one
instruction, encoded behind DD. Every command byte is its command's encoding. R330, R340, R312, R1112. -/
def Obligations.DecodedBytesAreEncoded : Prop :=
  (∀ (t : OpTable) (x : IndexMode) (b0 b1 b2 : Byte),
    let p := decodeOp t x b0 b1 b2
    let before : List Byte :=
      match t, x with
      | .main, .hl => []
      | .main, .ix => if indexAffects b0 = true ∨ b0 = 0xED#8 then [0xDD#8] else []
      | .main, .iy => if b0 = 0xED#8 then [0xDD#8] else if indexAffects b0 = true then [0xFD#8] else []
      | .cb, _ => [0xCB#8]
      | .ed, _ => [0xED#8]
      | .ddcb, _ => [0xDD#8, 0xCB#8]
      | .fdcb, _ => [0xFD#8, 0xCB#8]
    WellFormed p.1 = true ∧ p.1.space = .cpu ∧ 1 ≤ p.2 ∧ p.2 ≤ 3 ∧ encode p.1 = before ++ [b0, b1, b2].take p.2) ∧
  ∀ (side : Bool) (v : Byte), WellFormed (decodeFdcCommand side v) = true ∧ (decodeFdcCommand side v).space = .fdcCommand side ∧
    encode (decodeFdcCommand side v) = [v]

/-- An index prefix leaves the opcodes that R312 does not name as they are: they decode as unprefixed, and an ED prefix does what it does
unprefixed. R312, R812, R813. -/
def Obligations.IndexModeLeavesOtherOpcodes : Prop :=
  (∀ b0 b1 b2 : Byte, indexAffects b0 = false → b0 ≠ 0xED#8 → ∀ x, decodeOp .main x b0 b1 b2 = decodeOp .main .hl b0 b1 b2) ∧
  (∀ (x : IndexMode) (b1 b2 : Byte) (s : State), exec (decodeOp .main x 0xED#8 b1 b2).1 s = exec .prefixEd s) ∧
  ∀ b0 b1 b2 : Byte, indexAffects b0 = true →
    decodeOp .main .ix b0 b1 b2 ≠ decodeOp .main .hl b0 b1 b2 ∧ decodeOp .main .iy b0 b1 b2 ≠ decodeOp .main .hl b0 b1 b2

/-! ### Invariants -/

/-- The invariant holds after power-on. -/
def Obligations.InvariantAtReset : Prop := State.reset.Inv

/-- Every step keeps the invariant: the memory's canonical form, the event queue sorted and within its capacity (R1003), the timing state
consistent (R124, R126, R128), the controller's invariants (R1185), the bits of `int_status` that are no source at 1 (R130), and the model's own
`table` latch at `main` (log entry 10). -/
def Obligations.InvariantKept : Prop := ∀ s t : State, s.Inv → step s = .next t → t.Inv

/-- Time never goes back: no step lowers the absolute time, nor the cycle counter, which the model leaves unbounded (log entry 21). R207, R127. -/
def Obligations.TimeIsMonotone : Prop :=
  ∀ s t : State, ClockOk s.clock → step s = .next t →
    s.clock.cycleCounter + (s.clock.lineCycle - s.clock.lineCycleMark) ≤ t.clock.cycleCounter + (t.clock.lineCycle - t.clock.lineCycleMark) ∧
    s.clock.cycleCounter ≤ t.clock.cycleCounter

/-! ### Memory and time (20_memory.md) -/

/-- What one access costs: four cycles, rounded up to eight where the test of contention holds on the value after the addition, for reads and
writes alike; a port access four, rounded up from port 0xF8 on. R203, R204, R232. -/
def Obligations.AccessCharges : Prop :=
  ∀ (s : State) (addr : Word) (v : Byte),
    let lc := s.clock.lineCycle + 4
    let up (n : Nat) : State := { s with clock := { s.clock with lineCycle := n } }
    let round (n : Nat) : Prop := n % 8 = 0 ∧ lc ≤ n ∧ n < lc + 8
    let hit := s.clock.maybeContended = true ∧ 64 ≤ lc ∧ lc < 320 ∧ pageOf addr s < 32
    (hit → ∃ n, round n ∧ memCharge addr s = up n) ∧
    (¬hit → memCharge addr s = up lc) ∧
    (memWriteByte addr v s).clock = (memReadByte addr s).2.clock ∧ (memReadByte addr s).2 = memCharge addr s ∧
    (0xF8 ≤ (loByte addr).toNat → ∃ n, round n ∧ portCharge addr s = up n) ∧
    ((loByte addr).toNat < 0xF8 → portCharge addr s = up lc)

/-- Words in memory: the low byte lies at the lower address, address arithmetic wraps, a byte that is not writable stays, a word read back is the
word written, and what is popped is what was pushed. R201, R202, R211, R212, R213, R217, R218. -/
def Obligations.WordsInMemory : Prop :=
  ∀ (s : State) (a v : Word), Memory.wf s.mem = true →
    (memReadWord a s).1 = Word.ofBytes (s.byteAt (a + 1#16)) (s.byteAt a) ∧
    (∀ b, (memWriteWord a v s).byteAt b =
      if b = a ∧ writable a s = true then loByte v else if b = a + 1#16 ∧ writable b s = true then hiByte v else s.byteAt b) ∧
    (writable a s = true → writable (a + 1#16) s = true → (memReadWord a (memWriteWord a v s)).1 = v) ∧
    (writable (s.regs.sp - 2#16) s = true → writable (s.regs.sp - 1#16) s = true →
      (pop16 (push16 v s)).1 = v ∧ (pop16 (push16 v s)).2.regs = s.regs) ∧
    (push16 v s).regs = { s.regs with sp := s.regs.sp - 2#16 }

/-- A port outside the controller's range: whatever the external side does, the registers, the control state, the controller and the time but the
port charge are as before, and of the signals only the MOUSE and MIDIIN bits may differ. A port in the range: the memory, the events, the
signals and the paging are as before. R230, R231, R233, R236. -/
def Obligations.PortAccessFrame : Prop :=
  ∀ (s : State) (port : Word) (v : Byte), ∀ t ∈ [(portRead port s).2, portWrite port v s],
    t.regs = s.regs ∧ t.ctl = s.ctl ∧ t.clock = (portCharge port s).clock ∧
    (¬(0xE0 ≤ (loByte port).toNat ∧ (loByte port).toNat ≤ 0xE7) →
      t.fdc = s.fdc ∧ t.sig.intStatus &&& 0xF9#8 = s.sig.intStatus &&& 0xF9#8 ∧
      t.sig = { s.sig with intStatus := t.sig.intStatus }) ∧
    ((0xE0 ≤ (loByte port).toNat ∧ (loByte port).toNat ≤ 0xE7) →
      t.mem = s.mem ∧ t.events = s.events ∧ t.sig = s.sig ∧ t.paging = s.paging ∧ t.fault = s.fault)

/-! ### Events (61_event_queue.md) -/

/-- Adding an event puts it before the first entry due strictly later, or raises the fault when sixteen are active; cancelling takes away every
entry of its kind and keeps the order of the rest. R1004, R1005. -/
def Obligations.EventQueueOperations : Prop :=
  ∀ (s : State) (k : EventKind) (due : Nat),
    let early := s.events.takeWhile fun e => e.due ≤ due
    let late := s.events.dropWhile fun e => e.due ≤ due
    (s.events.length = 16 → addEvent k due s = { s with fault := some .queueExhausted }) ∧
    (s.events.length < 16 → addEvent k due s = { s with events := early ++ ⟨k, due⟩ :: late }) ∧
    cancelEvent k s = { s with events := s.events.filter fun e => e.kind ≠ k }

/-- The handlers of the core's own events, each from the entry's own due time. R1020 to R1025, R1033; the start events by decision D19 of
92_eei_decisions.md, MidiOutStart by D40, the durations 128 and 119808 by the defaults of R10 (log entry 11). -/
def Obligations.EventHandlers : Prop :=
  ∀ (s : State) (t now budget : Nat),
    let bits (g : Byte → Byte) : State := { s with sig := { s.sig with intStatus := g s.sig.intStatus } }
    let on (k : EventKind) : State := (dispatch ⟨k, t⟩ now budget s).1
    on .frameIntEnd = bits (· ||| 0x08#8) ∧ on .lineIntEnd = bits (· ||| 0x01#8) ∧
    on .midiOutStart = bits (· &&& 0xEF#8) ∧ on .midiOutEnd = bits (· ||| 0x10#8) ∧
    on .asicReady = { s with sig := { s.sig with asicAsleep := false } } ∧
    (s.fault = none → s.events.length < 16 →
      on .frameIntStart = addEvent .frameIntStart (t + 119808) (addEvent .frameIntEnd (t + 128) (bits (· &&& 0xF7#8))) ∧
      on .lineIntStart = addEvent .lineIntStart (t + 119808) (addEvent .lineIntEnd (t + 128) (bits (· &&& 0xFE#8))))

/-- The drain leaves nothing due: after it, unless the fault was raised, every entry of the queue is due later, a second drain at the same time
does nothing, the queue is still sorted and within its capacity, and the CPU, the clock and the controller are untouched. R1006. That the drain
ends rests on the bound of log entry 8. -/
def Obligations.DueEventsAreDrained : Prop :=
  ∀ (s : State) (now budget : Nat), QueueOk s.events →
    let t := checkEvents now budget s
    (t.fault = none → (∀ e ∈ t.events, now < e.due) ∧ ∀ again, checkEvents now again t = t) ∧
    QueueOk t.events ∧ t.regs = s.regs ∧ t.ctl = s.ctl ∧ t.clock = s.clock ∧ t.fdc = s.fdc

/-- The event check brings the cycle counter up to date and ends a scanline for each whole 384 cycles in the line-cycle counter: the scanline
counter, the contention flag and the end of the frame follow, and no register changes. R1010, R1012, R125, R126, R128. -/
def Obligations.EventCheckClock : Prop :=
  ∀ s : State,
    let t := eventCheck s
    let lc := s.clock.lineCycle
    let line := s.clock.line + lc / 384
    t.clock =
      { lineCycle := lc % 384
        lineCycleMark := lc % 384
        cycleCounter := s.clock.cycleCounter + (lc - s.clock.lineCycleMark)
        line := line
        maybeContended := if lc < 384 then s.clock.maybeContended else decide (68 ≤ line ∧ line ≤ 259)
        frameEnd := s.clock.frameEnd || decide (384 ≤ lc ∧ 312 ≤ line) } ∧
    t.regs = s.regs ∧ t.ctl = s.ctl ∧ t.fdc = s.fdc

/-! ### Flags and special state -/

/-- The results and the eight flags of the 8-bit helpers, on integers: PV of an addition or a subtraction is signed overflow, that of a logic
result or a rotate even parity. R551, R552, R553, R665. -/
def Obligations.Flags8 : Prop :=
  (∀ (a b : Byte) (c : Bool),
    let r := add8 a b c
    let f := r.2
    r.1.toNat = (a.toNat + b.toNat + c.toNat) % 256 ∧
    (f.getLsbD 7 = r.1.getLsbD 7 ∧ (f.getLsbD 6 = true ↔ r.1 = 0#8) ∧ f.getLsbD 5 = r.1.getLsbD 5 ∧
      (f.getLsbD 4 = true ↔ 15 < a.toNat % 16 + b.toNat % 16 + c.toNat) ∧ f.getLsbD 3 = r.1.getLsbD 3 ∧
      (f.getLsbD 2 = true ↔ (a.toInt + b.toInt + c.toNat < -128 ∨ 127 < a.toInt + b.toInt + c.toNat)) ∧
      (f.getLsbD 2 = true ↔ (a.getLsbD 7 = b.getLsbD 7 ∧ r.1.getLsbD 7 ≠ a.getLsbD 7)) ∧ f.getLsbD 1 = false ∧
      (f.getLsbD 0 = true ↔ 255 < a.toNat + b.toNat + c.toNat))) ∧
  (∀ (a b : Byte) (c : Bool),
    let r := sub8 a b c
    let f := r.2
    (r.1.toNat : Int) = ((a.toNat : Int) - b.toNat - c.toNat) % 256 ∧
    (f.getLsbD 7 = r.1.getLsbD 7 ∧ (f.getLsbD 6 = true ↔ r.1 = 0#8) ∧ f.getLsbD 5 = r.1.getLsbD 5 ∧
      (f.getLsbD 4 = true ↔ a.toNat % 16 < b.toNat % 16 + c.toNat) ∧ f.getLsbD 3 = r.1.getLsbD 3 ∧
      (f.getLsbD 2 = true ↔ (a.toInt - b.toInt - c.toNat < -128 ∨ 127 < a.toInt - b.toInt - c.toNat)) ∧
      (f.getLsbD 2 = true ↔ (a.getLsbD 7 ≠ b.getLsbD 7 ∧ r.1.getLsbD 7 ≠ a.getLsbD 7)) ∧ f.getLsbD 1 = true ∧
      (f.getLsbD 0 = true ↔ a.toNat < b.toNat + c.toNat))) ∧
  (let even (v : Byte) : Prop := ((List.range 8).countP fun k => v.getLsbD k) % 2 = 0
   (∀ (v : Byte) (h : Bool),
    let f := logic8 v h
    f.getLsbD 7 = v.getLsbD 7 ∧ (f.getLsbD 6 = true ↔ v = 0#8) ∧ f.getLsbD 5 = v.getLsbD 5 ∧ f.getLsbD 4 = h ∧
    f.getLsbD 3 = v.getLsbD 3 ∧ (f.getLsbD 2 = true ↔ even v) ∧ f.getLsbD 1 = false ∧ f.getLsbD 0 = false) ∧
   ∀ (op : RotOp) (v : Byte) (c : Bool),
    let n := v.toNat
    let low := n % 2 = 1
    let r := rotate op v c
    let f := rotFlags r.1 r.2
    (f.getLsbD 7 = r.1.getLsbD 7 ∧ (f.getLsbD 6 = true ↔ r.1 = 0#8) ∧ f.getLsbD 5 = r.1.getLsbD 5 ∧ f.getLsbD 4 = false ∧
      f.getLsbD 3 = r.1.getLsbD 3 ∧ (f.getLsbD 2 = true ↔ even r.1) ∧ f.getLsbD 1 = false ∧ f.getLsbD 0 = r.2) ∧
    match op with
    | .rlc => r.1.toNat = (2 * n + n / 128) % 256 ∧ (r.2 = true ↔ 128 ≤ n)
    | .rl => r.1.toNat = (2 * n + c.toNat) % 256 ∧ (r.2 = true ↔ 128 ≤ n)
    | .sla => r.1.toNat = 2 * n % 256 ∧ (r.2 = true ↔ 128 ≤ n)
    | .sll => r.1.toNat = (2 * n + 1) % 256 ∧ (r.2 = true ↔ 128 ≤ n)
    | .rrc => r.1.toNat = n / 2 + 128 * (n % 2) ∧ (r.2 = true ↔ low)
    | .rr => r.1.toNat = n / 2 + 128 * c.toNat ∧ (r.2 = true ↔ low)
    | .sra => r.1.toNat = n / 2 + 128 * (n / 128) ∧ (r.2 = true ↔ low)
    | .srl => r.1.toNat = n / 2 ∧ (r.2 = true ↔ low))

/-- The 16-bit sums and differences and their flags on integers, and the conditions by the flag bit each reads. R630 to R632, R112. -/
def Obligations.Flags16AndConditions : Prop :=
  (∀ (a b : Word) (g : Byte),
    let r := add16 a b g
    r.1 = a + b ∧ r.2 &&& 0xC4#8 = g &&& 0xC4#8 ∧ r.2.getLsbD 5 = r.1.getLsbD 13 ∧
    (r.2.getLsbD 4 = true ↔ 4095 < a.toNat % 4096 + b.toNat % 4096) ∧ r.2.getLsbD 3 = r.1.getLsbD 11 ∧ r.2.getLsbD 1 = false ∧
    (r.2.getLsbD 0 = true ↔ 65535 < a.toNat + b.toNat)) ∧
  (∀ (a b : Word) (c : Bool),
    let r := adc16 a b c
    r.1.toNat = (a.toNat + b.toNat + c.toNat) % 65536 ∧
    r.2.getLsbD 7 = r.1.getLsbD 15 ∧ (r.2.getLsbD 6 = true ↔ r.1 = 0#16) ∧ r.2.getLsbD 5 = r.1.getLsbD 13 ∧
    (r.2.getLsbD 4 = true ↔ 4095 < a.toNat % 4096 + b.toNat % 4096 + c.toNat) ∧ r.2.getLsbD 3 = r.1.getLsbD 11 ∧
    (r.2.getLsbD 2 = true ↔ (a.toInt + b.toInt + c.toNat < -32768 ∨ 32767 < a.toInt + b.toInt + c.toNat)) ∧ r.2.getLsbD 1 = false ∧
    (r.2.getLsbD 0 = true ↔ 65535 < a.toNat + b.toNat + c.toNat)) ∧
  (∀ (a b : Word) (c : Bool),
    let r := sbc16 a b c
    (r.1.toNat : Int) = ((a.toNat : Int) - b.toNat - c.toNat) % 65536 ∧
    r.2.getLsbD 7 = r.1.getLsbD 15 ∧ (r.2.getLsbD 6 = true ↔ r.1 = 0#16) ∧ r.2.getLsbD 5 = r.1.getLsbD 13 ∧
    (r.2.getLsbD 4 = true ↔ a.toNat % 4096 < b.toNat % 4096 + c.toNat) ∧ r.2.getLsbD 3 = r.1.getLsbD 11 ∧
    (r.2.getLsbD 2 = true ↔ (a.toInt - b.toInt - c.toNat < -32768 ∨ 32767 < a.toInt - b.toInt - c.toNat)) ∧ r.2.getLsbD 1 = true ∧
    (r.2.getLsbD 0 = true ↔ a.toNat < b.toNat + c.toNat)) ∧
  ∀ s : State,
    condHolds .nz s = !s.regs.f.getLsbD 6 ∧ condHolds .z s = s.regs.f.getLsbD 6 ∧
    condHolds .nc s = !s.regs.f.getLsbD 0 ∧ condHolds .c s = s.regs.f.getLsbD 0 ∧
    condHolds .po s = !s.regs.f.getLsbD 2 ∧ condHolds .pe s = s.regs.f.getLsbD 2 ∧
    condHolds .p s = !s.regs.f.getLsbD 7 ∧ condHolds .m s = s.regs.f.getLsbD 7

/-- The flags of the single instructions, from the helpers and bit by bit: the accumulator operations, INC and DEC (an addition and a subtraction
of 1 that keep the carry), IN, RLD and RRD, LD A,I and LD A,R, CPL, CCF, SCF, the accumulator rotates, BIT, and the block transfers and
searches; DAA over every A and F, its result and its eight flags, and that it corrects the sum and the difference of any two packed decimal
bytes. R554 to R562, R566, R771, R418, R600, R601, R603, R604, R660, R680, R506, R510. -/
def Obligations.InstructionFlags : Prop :=
  (∀ a v f : Byte,
    aluResult .add a v f = add8 a v false ∧ aluResult .adc a v f = add8 a v (f.getLsbD 0) ∧
    aluResult .sub a v f = sub8 a v false ∧ aluResult .sbc a v f = sub8 a v (f.getLsbD 0) ∧
    aluResult .and a v f = (a &&& v, logic8 (a &&& v) true) ∧ aluResult .xor a v f = (a ^^^ v, logic8 (a ^^^ v) false) ∧
    aluResult .or a v f = (a ||| v, logic8 (a ||| v) false) ∧ (aluResult .cp a v f).1 = a ∧
    (aluResult .cp a v f).2 &&& 0xD7#8 = (sub8 a v false).2 &&& 0xD7#8 ∧ (aluResult .cp a v f).2 &&& 0x28#8 = v &&& 0x28#8) ∧
  (∀ v f : Byte,
    incFlags v (v + 1#8) f = ((add8 v 1#8 false).2 &&& 0xFE#8) ||| (f &&& 0x01#8) ∧
    decFlags v (v - 1#8) f = ((sub8 v 1#8 false).2 &&& 0xFE#8) ||| (f &&& 0x01#8) ∧
    valueFlags v f = logic8 v false ||| (f &&& 0x01#8) ∧
    ∀ iff2, ldAIFlags v iff2 f = (logic8 v false &&& 0xFB#8) ||| (if iff2 then 0x04#8 else 0#8) ||| (f &&& 0x01#8)) ∧
  (∀ a f : Byte,
    cplFlags a f = (f &&& 0xC5#8) ||| 0x12#8 ||| (a &&& 0x28#8) ∧
    ccfFlags f &&& 0xD7#8 = (f &&& 0xC4#8) ||| (if f.getLsbD 0 then 0x10#8 else 0x01#8) ∧
    scfFlags f &&& 0xD7#8 = (f &&& 0xC4#8) ||| 0x01#8 ∧
    ∀ c, accRotFlags a c f = (f &&& 0xC4#8) ||| (a &&& 0x28#8) ||| (if c then 0x01#8 else 0#8)) ∧
  (∀ (b : BitVec 3) (v yx f : Byte),
    let g := bitFlags b v yx f
    g.getLsbD 6 = !v.getLsbD b.toNat ∧ g.getLsbD 2 = !v.getLsbD b.toNat ∧ (g.getLsbD 7 = true ↔ b = 7#3 ∧ v.getLsbD 7 = true) ∧
    g.getLsbD 4 = true ∧ g.getLsbD 1 = false ∧ g.getLsbD 0 = f.getLsbD 0 ∧ g &&& 0x28#8 = yx &&& 0x28#8) ∧
  (∀ (k f : Byte) (bc : Word),
    let g := blockLoadFlags k bc f
    g &&& 0xC1#8 = f &&& 0xC1#8 ∧ g.getLsbD 5 = k.getLsbD 1 ∧ g.getLsbD 4 = false ∧ g.getLsbD 3 = k.getLsbD 3 ∧
    (g.getLsbD 2 = true ↔ bc ≠ 0#16) ∧ g.getLsbD 1 = false) ∧
  (∀ (a t f : Byte) (bc : Word),
    let g := blockCompareFlags a t bc f
    let half := a.toNat % 16 < t.toNat % 16
    let k := a - t - (if half then 1#8 else 0#8)
    g.getLsbD 7 = (a - t).getLsbD 7 ∧ (g.getLsbD 6 = true ↔ a = t) ∧ g.getLsbD 5 = k.getLsbD 1 ∧ (g.getLsbD 4 = true ↔ half) ∧
    g.getLsbD 3 = k.getLsbD 3 ∧ (g.getLsbD 2 = true ↔ bc ≠ 0#16) ∧ g.getLsbD 1 = true ∧ g.getLsbD 0 = f.getLsbD 0) ∧
  (∀ a f : Byte,
    let r := daaResult a f
    let g := r.2
    let low := f.getLsbD 4 = true ∨ 9 < a.toNat % 16
    let high := f.getLsbD 0 = true ∨ 0x99 < a.toNat
    let correction := (if low then 0x06 else 0) + (if high then 0x60 else 0)
    (f.getLsbD 1 = false → r.1.toNat = (a.toNat + correction) % 256 ∧ (g.getLsbD 4 = true ↔ 9 < a.toNat % 16)) ∧
    (f.getLsbD 1 = true →
      r.1.toNat = (256 + a.toNat - correction) % 256 ∧ (g.getLsbD 4 = true ↔ f.getLsbD 4 = true ∧ a.toNat % 16 < 6)) ∧
    g.getLsbD 7 = r.1.getLsbD 7 ∧ (g.getLsbD 6 = true ↔ r.1 = 0#8) ∧ g.getLsbD 5 = r.1.getLsbD 5 ∧ g.getLsbD 3 = r.1.getLsbD 3 ∧
    (g.getLsbD 2 = true ↔ ((List.range 8).countP fun k => r.1.getLsbD k) % 2 = 0) ∧ g.getLsbD 1 = f.getLsbD 1 ∧
    (g.getLsbD 0 = true ↔ high)) ∧
  (let packed (n : Nat) : Byte := .ofNat 8 (n / 10 * 16 + n % 10)
   ∀ x < 100, ∀ y < 100, ∀ c : Bool,
    let sum := add8 (packed x) (packed y) c
    let up := daaResult sum.1 sum.2
    let difference := sub8 (packed x) (packed y) c
    let down := daaResult difference.1 difference.2
    up.1 = packed ((x + y + c.toNat) % 100) ∧ (up.2.getLsbD 0 = true ↔ 99 < x + y + c.toNat) ∧
    down.1 = packed ((100 + x - y - c.toNat) % 100) ∧ (down.2.getLsbD 0 = true ↔ x < y + c.toNat))

/-- Which instructions can change the special state: over all instructions and all states, no other writes an enable flip-flop, the interrupt
mode, I, R, a shadow register, the halt or the index mode of the next opcode, and none touches the cycle counter or the scanline.
R102, R115 to R118, R120, R121, R127. -/
def Obligations.SpecialStateWriters : Prop :=
  ∀ (i : Instr) (s t : State), exec i s = .next t →
    ((t.ctl.iff1 ≠ s.ctl.iff1 ∨ t.ctl.iff2 ≠ s.ctl.iff2) → i = .ei ∨ i = .di ∨ i = .retn ∨ i = .reti ∨ ∃ y, i = .retnMirror y) ∧
    (t.ctl.im ≠ s.ctl.im → i = .im0 ∨ i = .im1 ∨ i = .im2 ∨ (∃ y, i = .im0Mirror y) ∨ i = .im1Mirror ∨ i = .im2Mirror) ∧
    (t.regs.i ≠ s.regs.i → i = .ldIA) ∧ (t.regs.r ≠ s.regs.r → i = .ldRA) ∧
    ((t.regs.a' ≠ s.regs.a' ∨ t.regs.f' ≠ s.regs.f') → i = .exAfAf) ∧
    ((t.regs.b' ≠ s.regs.b' ∨ t.regs.c' ≠ s.regs.c' ∨ t.regs.d' ≠ s.regs.d' ∨ t.regs.e' ≠ s.regs.e' ∨ t.regs.h' ≠ s.regs.h' ∨
      t.regs.l' ≠ s.regs.l') → i = .exx) ∧
    (t.ctl.halted ≠ s.ctl.halted → i = .halt) ∧ (t.ctl.idxNext ≠ s.ctl.idxNext → i = .prefixDd ∨ i = .prefixFd) ∧
    t.ctl.idx = s.ctl.idx ∧ t.clock = { s.clock with lineCycle := t.clock.lineCycle } ∧ s.clock.lineCycle ≤ t.clock.lineCycle

/-- Without a port access no instruction changes a byte that is not writable, nor the paging, the events, the signals or the fault; only the
commands of the controller change the controller. R211, R226, R901. -/
def Obligations.ReadOnlyMemoryIsKept : Prop :=
  ∀ (i : Instr) (s t : State), Memory.wf s.mem = true → isPortInstr i = false → exec i s = .next t →
    (∀ a, writable a s = false → t.byteAt a = s.byteAt a) ∧
    t.events = s.events ∧ t.sig = s.sig ∧ t.paging = s.paging ∧ t.fault = s.fault ∧ (i.space = .cpu → t.fdc = s.fdc)
end

