-- ==== Sys2Proof/Laws/State.lean ====
section
/-! SUPPORT. What each update of one group of the state does to each field of the state. -/

namespace Sys2Proof.Machine

variable (s : State)

/-! ### `State.mapRegs` -/

@[simp] theorem State.mapRegs_regs (g : Regs → Regs) : (s.mapRegs g).regs = g s.regs := rfl
@[simp] theorem State.mapRegs_ctl (g : Regs → Regs) : (s.mapRegs g).ctl = s.ctl := rfl
@[simp] theorem State.mapRegs_clock (g : Regs → Regs) : (s.mapRegs g).clock = s.clock := rfl
@[simp] theorem State.mapRegs_sig (g : Regs → Regs) : (s.mapRegs g).sig = s.sig := rfl
@[simp] theorem State.mapRegs_events (g : Regs → Regs) : (s.mapRegs g).events = s.events := rfl
@[simp] theorem State.mapRegs_fdc (g : Regs → Regs) : (s.mapRegs g).fdc = s.fdc := rfl
@[simp] theorem State.mapRegs_mem (g : Regs → Regs) : (s.mapRegs g).mem = s.mem := rfl
@[simp] theorem State.mapRegs_paging (g : Regs → Regs) : (s.mapRegs g).paging = s.paging := rfl
@[simp] theorem State.mapRegs_fault (g : Regs → Regs) : (s.mapRegs g).fault = s.fault := rfl
@[simp] theorem State.mapRegs_draws (g : Regs → Regs) : (s.mapRegs g).draws = s.draws := rfl

/-! ### `State.mapCtl` -/

@[simp] theorem State.mapCtl_regs (g : Control → Control) : (s.mapCtl g).regs = s.regs := rfl
@[simp] theorem State.mapCtl_ctl (g : Control → Control) : (s.mapCtl g).ctl = g s.ctl := rfl
@[simp] theorem State.mapCtl_clock (g : Control → Control) : (s.mapCtl g).clock = s.clock := rfl
@[simp] theorem State.mapCtl_sig (g : Control → Control) : (s.mapCtl g).sig = s.sig := rfl
@[simp] theorem State.mapCtl_events (g : Control → Control) : (s.mapCtl g).events = s.events := rfl
@[simp] theorem State.mapCtl_fdc (g : Control → Control) : (s.mapCtl g).fdc = s.fdc := rfl
@[simp] theorem State.mapCtl_mem (g : Control → Control) : (s.mapCtl g).mem = s.mem := rfl
@[simp] theorem State.mapCtl_paging (g : Control → Control) : (s.mapCtl g).paging = s.paging := rfl
@[simp] theorem State.mapCtl_fault (g : Control → Control) : (s.mapCtl g).fault = s.fault := rfl
@[simp] theorem State.mapCtl_draws (g : Control → Control) : (s.mapCtl g).draws = s.draws := rfl

/-! ### `State.mapClock` -/

@[simp] theorem State.mapClock_regs (g : Clock → Clock) : (s.mapClock g).regs = s.regs := rfl
@[simp] theorem State.mapClock_ctl (g : Clock → Clock) : (s.mapClock g).ctl = s.ctl := rfl
@[simp] theorem State.mapClock_clock (g : Clock → Clock) : (s.mapClock g).clock = g s.clock := rfl
@[simp] theorem State.mapClock_sig (g : Clock → Clock) : (s.mapClock g).sig = s.sig := rfl
@[simp] theorem State.mapClock_events (g : Clock → Clock) : (s.mapClock g).events = s.events := rfl
@[simp] theorem State.mapClock_fdc (g : Clock → Clock) : (s.mapClock g).fdc = s.fdc := rfl
@[simp] theorem State.mapClock_mem (g : Clock → Clock) : (s.mapClock g).mem = s.mem := rfl
@[simp] theorem State.mapClock_paging (g : Clock → Clock) : (s.mapClock g).paging = s.paging := rfl
@[simp] theorem State.mapClock_fault (g : Clock → Clock) : (s.mapClock g).fault = s.fault := rfl
@[simp] theorem State.mapClock_draws (g : Clock → Clock) : (s.mapClock g).draws = s.draws := rfl

/-! ### `State.mapSig` -/

@[simp] theorem State.mapSig_regs (g : Signals → Signals) : (s.mapSig g).regs = s.regs := rfl
@[simp] theorem State.mapSig_ctl (g : Signals → Signals) : (s.mapSig g).ctl = s.ctl := rfl
@[simp] theorem State.mapSig_clock (g : Signals → Signals) : (s.mapSig g).clock = s.clock := rfl
@[simp] theorem State.mapSig_sig (g : Signals → Signals) : (s.mapSig g).sig = g s.sig := rfl
@[simp] theorem State.mapSig_events (g : Signals → Signals) : (s.mapSig g).events = s.events := rfl
@[simp] theorem State.mapSig_fdc (g : Signals → Signals) : (s.mapSig g).fdc = s.fdc := rfl
@[simp] theorem State.mapSig_mem (g : Signals → Signals) : (s.mapSig g).mem = s.mem := rfl
@[simp] theorem State.mapSig_paging (g : Signals → Signals) : (s.mapSig g).paging = s.paging := rfl
@[simp] theorem State.mapSig_fault (g : Signals → Signals) : (s.mapSig g).fault = s.fault := rfl
@[simp] theorem State.mapSig_draws (g : Signals → Signals) : (s.mapSig g).draws = s.draws := rfl

/-! ### `State.setEvents` -/

@[simp] theorem State.setEvents_regs (q : List Event) : (s.setEvents q).regs = s.regs := rfl
@[simp] theorem State.setEvents_ctl (q : List Event) : (s.setEvents q).ctl = s.ctl := rfl
@[simp] theorem State.setEvents_clock (q : List Event) : (s.setEvents q).clock = s.clock := rfl
@[simp] theorem State.setEvents_sig (q : List Event) : (s.setEvents q).sig = s.sig := rfl
@[simp] theorem State.setEvents_events (q : List Event) : (s.setEvents q).events = q := rfl
@[simp] theorem State.setEvents_fdc (q : List Event) : (s.setEvents q).fdc = s.fdc := rfl
@[simp] theorem State.setEvents_mem (q : List Event) : (s.setEvents q).mem = s.mem := rfl
@[simp] theorem State.setEvents_paging (q : List Event) : (s.setEvents q).paging = s.paging := rfl
@[simp] theorem State.setEvents_fault (q : List Event) : (s.setEvents q).fault = s.fault := rfl
@[simp] theorem State.setEvents_draws (q : List Event) : (s.setEvents q).draws = s.draws := rfl

/-! ### `State.mapFdc` -/

@[simp] theorem State.mapFdc_regs (g : Fdc → Fdc) : (s.mapFdc g).regs = s.regs := rfl
@[simp] theorem State.mapFdc_ctl (g : Fdc → Fdc) : (s.mapFdc g).ctl = s.ctl := rfl
@[simp] theorem State.mapFdc_clock (g : Fdc → Fdc) : (s.mapFdc g).clock = s.clock := rfl
@[simp] theorem State.mapFdc_sig (g : Fdc → Fdc) : (s.mapFdc g).sig = s.sig := rfl
@[simp] theorem State.mapFdc_events (g : Fdc → Fdc) : (s.mapFdc g).events = s.events := rfl
@[simp] theorem State.mapFdc_fdc (g : Fdc → Fdc) : (s.mapFdc g).fdc = g s.fdc := rfl
@[simp] theorem State.mapFdc_mem (g : Fdc → Fdc) : (s.mapFdc g).mem = s.mem := rfl
@[simp] theorem State.mapFdc_paging (g : Fdc → Fdc) : (s.mapFdc g).paging = s.paging := rfl
@[simp] theorem State.mapFdc_fault (g : Fdc → Fdc) : (s.mapFdc g).fault = s.fault := rfl
@[simp] theorem State.mapFdc_draws (g : Fdc → Fdc) : (s.mapFdc g).draws = s.draws := rfl

/-! ### `State.setMem` -/

@[simp] theorem State.setMem_regs (m : Memory) : (s.setMem m).regs = s.regs := rfl
@[simp] theorem State.setMem_ctl (m : Memory) : (s.setMem m).ctl = s.ctl := rfl
@[simp] theorem State.setMem_clock (m : Memory) : (s.setMem m).clock = s.clock := rfl
@[simp] theorem State.setMem_sig (m : Memory) : (s.setMem m).sig = s.sig := rfl
@[simp] theorem State.setMem_events (m : Memory) : (s.setMem m).events = s.events := rfl
@[simp] theorem State.setMem_fdc (m : Memory) : (s.setMem m).fdc = s.fdc := rfl
@[simp] theorem State.setMem_mem (m : Memory) : (s.setMem m).mem = m := rfl
@[simp] theorem State.setMem_paging (m : Memory) : (s.setMem m).paging = s.paging := rfl
@[simp] theorem State.setMem_fault (m : Memory) : (s.setMem m).fault = s.fault := rfl
@[simp] theorem State.setMem_draws (m : Memory) : (s.setMem m).draws = s.draws := rfl

/-! ### `State.mapPaging` -/

@[simp] theorem State.mapPaging_regs (g : Paging → Paging) : (s.mapPaging g).regs = s.regs := rfl
@[simp] theorem State.mapPaging_ctl (g : Paging → Paging) : (s.mapPaging g).ctl = s.ctl := rfl
@[simp] theorem State.mapPaging_clock (g : Paging → Paging) : (s.mapPaging g).clock = s.clock := rfl
@[simp] theorem State.mapPaging_sig (g : Paging → Paging) : (s.mapPaging g).sig = s.sig := rfl
@[simp] theorem State.mapPaging_events (g : Paging → Paging) : (s.mapPaging g).events = s.events := rfl
@[simp] theorem State.mapPaging_fdc (g : Paging → Paging) : (s.mapPaging g).fdc = s.fdc := rfl
@[simp] theorem State.mapPaging_mem (g : Paging → Paging) : (s.mapPaging g).mem = s.mem := rfl
@[simp] theorem State.mapPaging_paging (g : Paging → Paging) : (s.mapPaging g).paging = g s.paging := rfl
@[simp] theorem State.mapPaging_fault (g : Paging → Paging) : (s.mapPaging g).fault = s.fault := rfl
@[simp] theorem State.mapPaging_draws (g : Paging → Paging) : (s.mapPaging g).draws = s.draws := rfl

/-! ### `State.raise` -/

@[simp] theorem State.raise_regs (f : Fault) : (s.raise f).regs = s.regs := rfl
@[simp] theorem State.raise_ctl (f : Fault) : (s.raise f).ctl = s.ctl := rfl
@[simp] theorem State.raise_clock (f : Fault) : (s.raise f).clock = s.clock := rfl
@[simp] theorem State.raise_sig (f : Fault) : (s.raise f).sig = s.sig := rfl
@[simp] theorem State.raise_events (f : Fault) : (s.raise f).events = s.events := rfl
@[simp] theorem State.raise_fdc (f : Fault) : (s.raise f).fdc = s.fdc := rfl
@[simp] theorem State.raise_mem (f : Fault) : (s.raise f).mem = s.mem := rfl
@[simp] theorem State.raise_paging (f : Fault) : (s.raise f).paging = s.paging := rfl
@[simp] theorem State.raise_fault (f : Fault) : (s.raise f).fault = some f := rfl
@[simp] theorem State.raise_draws (f : Fault) : (s.raise f).draws = s.draws := rfl

/-! ### `State.nextDraw` -/

@[simp] theorem State.nextDraw_regs : (s.nextDraw).regs = s.regs := rfl
@[simp] theorem State.nextDraw_ctl : (s.nextDraw).ctl = s.ctl := rfl
@[simp] theorem State.nextDraw_clock : (s.nextDraw).clock = s.clock := rfl
@[simp] theorem State.nextDraw_sig : (s.nextDraw).sig = s.sig := rfl
@[simp] theorem State.nextDraw_events : (s.nextDraw).events = s.events := rfl
@[simp] theorem State.nextDraw_fdc : (s.nextDraw).fdc = s.fdc := rfl
@[simp] theorem State.nextDraw_mem : (s.nextDraw).mem = s.mem := rfl
@[simp] theorem State.nextDraw_paging : (s.nextDraw).paging = s.paging := rfl
@[simp] theorem State.nextDraw_fault : (s.nextDraw).fault = s.fault := rfl
@[simp] theorem State.nextDraw_draws : (s.nextDraw).draws = s.draws + 1 := rfl

end Sys2Proof.Machine
end

