-- ==== Sys2Proof/Laws/Memory.lean ====
section
/-! SUPPORT. The laws of the memory cells: what a read sees after a write, and that every operation keeps the canonical form. -/

namespace Sys2Proof.Machine

/-! ### Reads after writes -/

theorem Memory.wfFrom_cons {lo k : Nat} {w : Byte} {rest : Memory} :
    Memory.wfFrom lo ((k, w) :: rest) = true ↔
      lo ≤ k ∧ k < 65536 ∧ w ≠ unlistedByte ∧ Memory.wfFrom (k + 1) rest = true := by
  simp [Memory.wfFrom, and_assoc]

theorem Memory.wfFrom_mono {lo lo' : Nat} {m : Memory} (h : Memory.wfFrom lo' m = true) (hl : lo ≤ lo') : Memory.wfFrom lo m = true := by
  cases m with
  | nil => rfl
  | cons c rest =>
    obtain ⟨k, w⟩ := c
    rw [Memory.wfFrom_cons] at *
    exact ⟨hl.trans h.1, h.2⟩

/-- Below the addresses it lists, a memory reads as unlisted. -/
theorem Memory.read_below {lo a : Nat} {m : Memory} (h : Memory.wfFrom lo m = true) (ha : a < lo) : Memory.read m a = unlistedByte := by
  induction m generalizing lo with
  | nil => rfl
  | cons c rest ih =>
    obtain ⟨k, w⟩ := c
    rw [Memory.wfFrom_cons] at h
    have hk : k ≠ a := by omega
    simpa [Memory.read, hk] using ih h.2.2.2 (by omega)

/-- A read at the address written gives the value written. -/
theorem Memory.read_write_same {lo : Nat} {m : Memory} (h : Memory.wfFrom lo m = true) (a : Nat) (v : Byte) :
    Memory.read (Memory.write m a v) a = v := by
  induction m generalizing lo with
  | nil => by_cases hv : v = unlistedByte <;> simp [Memory.write, Memory.read, hv]
  | cons c rest ih =>
    obtain ⟨k, w⟩ := c
    rw [Memory.wfFrom_cons] at h
    by_cases hk : k = a
    · subst hk
      by_cases hv : v = unlistedByte
      · simpa [Memory.write, hv] using Memory.read_below h.2.2.2 (Nat.lt_succ_self k)
      · simp [Memory.write, Memory.read, hv]
    · by_cases hlt : a < k
      · by_cases hv : v = unlistedByte
        · simpa [Memory.write, Memory.read, hk, hlt, hv] using Memory.read_below h.2.2.2 (Nat.lt_succ_of_lt hlt)
        · simp [Memory.write, Memory.read, hk, hlt, hv]
      · simpa [Memory.write, Memory.read, hk, hlt] using ih h.2.2.2

/-- A read at any other address is as before the write. -/
theorem Memory.read_write_other (m : Memory) {a b : Nat} (v : Byte) (hab : b ≠ a) : Memory.read (Memory.write m a v) b = Memory.read m b := by
  induction m with
  | nil => by_cases hv : v = unlistedByte <;> simp [Memory.write, Memory.read, hv, hab.symm]
  | cons c rest ih =>
    obtain ⟨k, w⟩ := c
    by_cases hk : k = a
    · subst hk
      by_cases hv : v = unlistedByte <;> simp [Memory.write, Memory.read, hv, hab.symm]
    · by_cases hlt : a < k
      · by_cases hv : v = unlistedByte <;> simp [Memory.write, Memory.read, hk, hlt, hv, hab.symm]
      · simp [Memory.write, Memory.read, hk, hlt, ih]

/-! ### The canonical form -/

/-- A write keeps the canonical form. -/
theorem Memory.wfFrom_write {lo a : Nat} {m : Memory} {v : Byte} (h : Memory.wfFrom lo m = true) (hla : lo ≤ a) (ha : a < 65536) :
    Memory.wfFrom lo (Memory.write m a v) = true := by
  induction m generalizing lo with
  | nil => by_cases hv : v = unlistedByte <;> simp [Memory.write, Memory.wfFrom, hv, hla, ha]
  | cons c rest ih =>
    obtain ⟨k, w⟩ := c
    rw [Memory.wfFrom_cons] at h
    by_cases hk : k = a
    · subst hk
      by_cases hv : v = unlistedByte
      · simpa [Memory.write, hv] using Memory.wfFrom_mono h.2.2.2 (by omega)
      · simp [Memory.write, hv, Memory.wfFrom_cons, h]
    · by_cases hlt : a < k
      · by_cases hv : v = unlistedByte
        · simp [Memory.write, hk, hlt, hv, Memory.wfFrom_cons, h]
        · simp only [Memory.write, hk, hlt, hv, if_true, if_false, Memory.wfFrom_cons, ne_eq, not_false_eq_true, true_and]
          exact ⟨hla, ha, by omega, h.2.1, h.2.2.1, h.2.2.2⟩
      · simp only [Memory.write, hk, hlt, if_false, Memory.wfFrom_cons]
        exact ⟨h.1, h.2.1, h.2.2.1, ih h.2.2.2 (by omega)⟩

/-- A write at a word address keeps the canonical form. -/
theorem Memory.wf_write {m : Memory} (h : Memory.wf m = true) (a : Word) (v : Byte) : Memory.wf (Memory.write m a.toNat v) = true :=
  Memory.wfFrom_write h (Nat.zero_le _) a.isLt

/-- Two canonical memories that read alike are the same data. -/
theorem Memory.ext_of_read {lo : Nat} {m n : Memory} (hm : Memory.wfFrom lo m = true) (hn : Memory.wfFrom lo n = true)
    (h : ∀ a, Memory.read m a = Memory.read n a) : m = n := by
  induction m generalizing lo n with
  | nil =>
    cases n with
    | nil => rfl
    | cons c rest =>
      obtain ⟨k, w⟩ := c
      rw [Memory.wfFrom_cons] at hn
      have := h k
      simp only [Memory.read, if_true] at this
      exact absurd this.symm hn.2.2.1
  | cons c rest ih =>
    obtain ⟨k, w⟩ := c
    cases n with
    | nil =>
      rw [Memory.wfFrom_cons] at hm
      have := h k
      simp only [Memory.read, if_true] at this
      exact absurd this hm.2.2.1
    | cons d rest' =>
      obtain ⟨k', w'⟩ := d
      rw [Memory.wfFrom_cons] at hm hn
      have hk : k = k' := by
        rcases Nat.lt_trichotomy k k' with hlt | heq | hlt
        · have := h k
          simp only [Memory.read, if_true, show k' ≠ k by omega, if_false, Memory.read_below hn.2.2.2 (show k < k' + 1 by omega)] at this
          exact absurd this hm.2.2.1
        · exact heq
        · have := h k'
          simp only [Memory.read, if_true, show k ≠ k' by omega, if_false, Memory.read_below hm.2.2.2 (show k' < k + 1 by omega)] at this
          exact absurd this.symm hn.2.2.1
      subst hk
      have hw : w = w' := by simpa [Memory.read] using h k
      subst hw
      have hr : rest = rest' := by
        refine ih hm.2.2.2 hn.2.2.2 fun a => ?_
        by_cases ha : k = a
        · subst ha
          rw [Memory.read_below hm.2.2.2 (Nat.lt_succ_self k), Memory.read_below hn.2.2.2 (Nat.lt_succ_self k)]
        · simpa [Memory.read, ha] using h a
      rw [hr]

/-! ### The same laws of a state -/

theorem State.byteAt_pokeByte {s : State} (h : Memory.wf s.mem = true) (a b : Word) (v : Byte) :
    (s.pokeByte a v).byteAt b = if b = a then v else s.byteAt b := by
  by_cases hb : b = a
  · subst hb
    simpa [State.byteAt, State.pokeByte] using Memory.read_write_same h b.toNat v
  · have : b.toNat ≠ a.toNat := fun hn => hb (BitVec.eq_of_toNat_eq hn)
    simpa [State.byteAt, State.pokeByte, hb] using Memory.read_write_other s.mem v this

theorem State.wf_pokeByte {s : State} (h : Memory.wf s.mem = true) (a : Word) (v : Byte) : Memory.wf (s.pokeByte a v).mem = true := by
  simpa [State.pokeByte] using Memory.wf_write h a v

/-- The memory after reset is canonical. -/
theorem reset_mem_wf : Memory.wf State.reset.mem = true := rfl

end Sys2Proof.Machine
end

