-- ==== Sys2Proof/Laws/Access.lean ====
section
/-! SUPPORT. The timed access layer: what one access, a word access, a push and a pop do, each said once, and how a list of accesses
(`bytesAfter`, `cyclesAfter`) grows with them. -/

namespace Sys2Proof.Machine

/-! ### One access -/

/-- A byte write, as one update of the state. -/
theorem memWriteByte_eq (a : Word) (v : Byte) (s : State) :
    memWriteByte a v s =
      { s with
        clock := { s.clock with lineCycle := chargedCycle a s }
        mem := if writable a s = true then Memory.write s.mem a.toNat v else s.mem } := by
  by_cases h : writable a s = true
  · have h' : writable a (memCharge a s) = true := h
    simp only [memWriteByte, h', h, if_true]; rfl
  · have h' : ¬ writable a (memCharge a s) = true := h
    simp only [memWriteByte, h', h]; rfl

@[simp] theorem memWriteByte_regs (a : Word) (v : Byte) (s : State) : (memWriteByte a v s).regs = s.regs := by rw [memWriteByte_eq]
@[simp] theorem memWriteByte_ctl (a : Word) (v : Byte) (s : State) : (memWriteByte a v s).ctl = s.ctl := by rw [memWriteByte_eq]
@[simp] theorem memWriteByte_sig (a : Word) (v : Byte) (s : State) : (memWriteByte a v s).sig = s.sig := by rw [memWriteByte_eq]
@[simp] theorem memWriteByte_events (a : Word) (v : Byte) (s : State) : (memWriteByte a v s).events = s.events := by rw [memWriteByte_eq]
@[simp] theorem memWriteByte_fdc (a : Word) (v : Byte) (s : State) : (memWriteByte a v s).fdc = s.fdc := by rw [memWriteByte_eq]
@[simp] theorem memWriteByte_paging (a : Word) (v : Byte) (s : State) : (memWriteByte a v s).paging = s.paging := by rw [memWriteByte_eq]
@[simp] theorem memWriteByte_fault (a : Word) (v : Byte) (s : State) : (memWriteByte a v s).fault = s.fault := by rw [memWriteByte_eq]
@[simp] theorem memWriteByte_draws (a : Word) (v : Byte) (s : State) : (memWriteByte a v s).draws = s.draws := by rw [memWriteByte_eq]
@[simp] theorem memWriteByte_clock (a : Word) (v : Byte) (s : State) :
    (memWriteByte a v s).clock = { s.clock with lineCycle := chargedCycle a s } := by rw [memWriteByte_eq]

/-- What a byte write leaves at each address. -/
theorem byteAt_memWriteByte {s : State} (h : Memory.wf s.mem = true) (a b : Word) (v : Byte) :
    (memWriteByte a v s).byteAt b = if b = a ∧ writable a s = true then v else s.byteAt b := by
  rw [memWriteByte_eq]
  by_cases hw : writable a s = true
  · simpa [State.byteAt, State.pokeByte, State.setMem, hw] using State.byteAt_pokeByte h a b v
  · simp [State.byteAt, hw]

/-- A byte write keeps the canonical form. -/
theorem wf_memWriteByte {s : State} (h : Memory.wf s.mem = true) (a : Word) (v : Byte) : Memory.wf (memWriteByte a v s).mem = true := by
  rw [memWriteByte_eq]
  by_cases hw : writable a s = true
  · simpa [hw] using Memory.wf_write h a v
  · simpa [hw] using h

@[simp] theorem memCharge_regs (a : Word) (s : State) : (memCharge a s).regs = s.regs := rfl
@[simp] theorem memCharge_ctl (a : Word) (s : State) : (memCharge a s).ctl = s.ctl := rfl
@[simp] theorem memCharge_mem (a : Word) (s : State) : (memCharge a s).mem = s.mem := rfl
@[simp] theorem memCharge_draws (a : Word) (s : State) : (memCharge a s).draws = s.draws := rfl

theorem memReadByte_eq (a : Word) (s : State) : memReadByte a s = (s.byteAt a, memCharge a s) := rfl

theorem memReadWord_eq (a : Word) (s : State) : memReadWord a s = (s.wordAt a, memCharge (a + 1#16) (memCharge a s)) := rfl

/-! ### Lists of accesses -/

theorem bytesAfter_append (l : List Access) (x : Access) (s : State) : bytesAfter (l ++ [x]) s = Access.apply s (bytesAfter l s) x := by
  simp [bytesAfter]

/-- The accesses of `l`, and nothing else outside the registers, the control state and the draws, lead from `b` to `t`. -/
structure Did (b t : State) (l : List Access) : Prop where
  bytes : ∀ a, t.byteAt a = bytesAfter l b a
  clock : t.clock = { b.clock with lineCycle := cyclesAfter l 0 0 b }
  sig : t.sig = b.sig
  events : t.events = b.events
  fdc : t.fdc = b.fdc
  paging : t.paging = b.paging
  fault : t.fault = b.fault

theorem Did.refl (s : State) : Did s s [] := ⟨fun _ => rfl, rfl, rfl, rfl, rfl, rfl, rfl⟩

theorem Did.writable {b t : State} {l : List Access} (h : Did b t l) (a : Word) : writable a t = writable a b := by
  simp only [Machine.writable, h.paging]

theorem chargedCycle_congr {s t : State} (hc : s.clock = t.clock) (hp : s.paging = t.paging) (a : Word) : chargedCycle a s = chargedCycle a t := by
  cases s; cases t; simp only at hc hp; subst hc hp; rfl

/-- Charging keeps everything but the line-cycle counter. -/
theorem foldl_charge_eq (l : List Access) (b : State) :
    l.foldl (fun k x => memCharge x.addr k) b = { b with clock := { b.clock with lineCycle := cyclesAfter l 0 0 b } } := by
  unfold cyclesAfter
  induction l generalizing b with
  | nil => rfl
  | cons x l ih => simp only [List.foldl_cons]; rw [ih (memCharge x.addr b)]; rfl

/-- The counter after one more access. -/
theorem Did.charged {b t : State} {l : List Access} (h : Did b t l) (x : Access) :
    chargedCycle x.addr t = cyclesAfter (l ++ [x]) 0 0 b := by
  have h1 : cyclesAfter (l ++ [x]) 0 0 b = chargedCycle x.addr (l.foldl (fun k x => memCharge x.addr k) b) := by
    simp only [cyclesAfter, List.foldl_append, List.foldl_cons, List.foldl_nil]
    rfl
  rw [h1]
  refine chargedCycle_congr ?_ ?_ _
  · rw [foldl_charge_eq, h.clock]
  · rw [foldl_charge_eq, h.paging]

/-- A read adds its access. -/
theorem Did.read {b t : State} {l : List Access} (h : Did b t l) (a : Word) : Did b (memCharge a t) (l ++ [.read a]) where
  bytes c := by rw [bytesAfter_append]; exact h.bytes c
  clock := by
    have := h.charged (.read a)
    simp only [Access.addr] at this
    rw [← this]
    show { t.clock with lineCycle := chargedCycle a t } = _
    rw [h.clock]
  sig := h.sig
  events := h.events
  fdc := h.fdc
  paging := h.paging
  fault := h.fault

/-- A write adds its access. -/
theorem Did.write {b t : State} {l : List Access} (h : Did b t l) (hw : Memory.wf t.mem = true) (a : Word) (v : Byte) :
    Did b (memWriteByte a v t) (l ++ [.write a v]) where
  bytes c := by
    rw [bytesAfter_append, byteAt_memWriteByte hw, h.bytes, h.writable]
    rfl
  clock := by
    have := h.charged (.write a v)
    simp only [Access.addr] at this
    rw [← this, memWriteByte_clock, h.clock]
  sig := by simpa using h.sig
  events := by simpa using h.events
  fdc := by simpa using h.fdc
  paging := by simpa using h.paging
  fault := by simpa using h.fault

/-- A change of registers adds nothing. -/
theorem Did.mapRegs {b t : State} {l : List Access} (h : Did b t l) (g : Regs → Regs) : Did b (t.mapRegs g) l :=
  ⟨h.bytes, h.clock, h.sig, h.events, h.fdc, h.paging, h.fault⟩

/-- A change of the control state adds nothing. -/
theorem Did.mapCtl {b t : State} {l : List Access} (h : Did b t l) (g : Control → Control) : Did b (t.mapCtl g) l :=
  ⟨h.bytes, h.clock, h.sig, h.events, h.fdc, h.paging, h.fault⟩

/-- A draw adds nothing. -/
theorem Did.nextDraw {b t : State} {l : List Access} (h : Did b t l) : Did b t.nextDraw l :=
  ⟨h.bytes, h.clock, h.sig, h.events, h.fdc, h.paging, h.fault⟩

/-- The line-cycle counter plays no part in what has been done but in `clock`. -/
theorem Did.ofEq {b t u : State} {l : List Access} (h : Did b t l) (hb : ∀ a, u.byteAt a = t.byteAt a) (hc : u.clock = t.clock)
    (h1 : u.sig = t.sig) (h2 : u.events = t.events) (h3 : u.fdc = t.fdc) (h4 : u.paging = t.paging) (h5 : u.fault = t.fault) : Did b u l :=
  ⟨fun a => (hb a).trans (h.bytes a), hc.trans h.clock, h1.trans h.sig, h2.trans h.events, h3.trans h.fdc, h4.trans h.paging,
    h5.trans h.fault⟩

/-- What an instruction does, from what its meaning has done before its explicit delta. -/
theorem hasEffect_of_did {b t : State} {e : Effect} (hd : Did b t e.accesses) (hr : t.regs.closed e.openF = e.regs.closed e.openF)
    (hc : t.ctl = e.ctl) (hn : e.openF = 0#8 → t.draws = b.draws) : HasEffect (spend e.t e.n t) b e := by
  refine ⟨hr, hc, hd.bytes, ?_, hd.sig, hd.events, hd.fdc, hd.paging, hd.fault, hn⟩
  show { t.clock with lineCycle := t.clock.lineCycle + Config.extra e.t e.n } = _
  rw [hd.clock]
  simp [cyclesAfter, Config.extra]

/-- The same of an instruction whose meaning ends so. -/
theorem completesFrom_of_did {i : Instr} {s b t : State} {e : Effect} (hx : exec i s = .next (spend e.t e.n t))
    (hd : Did b t e.accesses) (hr : t.regs.closed e.openF = e.regs.closed e.openF) (hc : t.ctl = e.ctl)
    (hn : e.openF = 0#8 → t.draws = b.draws) : CompletesFrom i s b e := ⟨_, hx, hasEffect_of_did hd hr hc hn⟩

/-! ### Word accesses, the stack -/

theorem wf_memWriteWord {s : State} (h : Memory.wf s.mem = true) (a v : Word) : Memory.wf (memWriteWord a v s).mem = true :=
  wf_memWriteByte (wf_memWriteByte h _ _) _ _

@[simp] theorem memWriteWord_regs (a v : Word) (s : State) : (memWriteWord a v s).regs = s.regs := by simp [memWriteWord]
@[simp] theorem memWriteWord_ctl (a v : Word) (s : State) : (memWriteWord a v s).ctl = s.ctl := by simp [memWriteWord]
@[simp] theorem memWriteWord_draws (a v : Word) (s : State) : (memWriteWord a v s).draws = s.draws := by simp [memWriteWord]

theorem Did.readWord {b t : State} {l : List Access} (h : Did b t l) (a : Word) :
    Did b (memCharge (a + 1#16) (memCharge a t)) (l ++ readsWord a) := by
  have := (h.read a).read (a + 1#16)
  simpa [readsWord, List.append_assoc] using this

theorem Did.writeWord {b t : State} {l : List Access} (h : Did b t l) (hw : Memory.wf t.mem = true) (a v : Word) :
    Did b (memWriteWord a v t) (l ++ writesWord a v) := by
  have := (h.write hw a (loByte v)).write (wf_memWriteByte hw _ _) (a + 1#16) (hiByte v)
  show Did b (memWriteByte (a + 1#16) (hiByte v) (memWriteByte a (loByte v) t)) _
  simpa [writesWord, List.append_assoc] using this

/-- A push: SP down by 2, then the word written there. -/
theorem push16_eq (v : Word) (s : State) : push16 v s = memWriteWord (s.regs.sp - 2#16) v (setSp (s.regs.sp - 2#16) s) := rfl

/-- A pop: the word at SP, then SP up by 2. -/
theorem pop16_eq (s : State) :
    pop16 s = (s.wordAt s.regs.sp, setSp (s.regs.sp + 2#16) (memCharge (s.regs.sp + 1#16) (memCharge s.regs.sp s))) := rfl

/-! ### Flags written -/

theorem writeF_eq (v : Byte) (s : State) : writeF v s = setF v s := rfl

theorem writeFOpen_eq (o v : Byte) (s : State) : writeFOpen o v s = setF ((v &&& ~~~o) ||| (drawnByte s &&& o)) s.nextDraw := rfl

/-- Outside its open bits, a flag write with open bits is the rule's value. -/
theorem closed_open (v d o : Byte) : ((v &&& ~~~o) ||| (d &&& o)) &&& ~~~o = v &&& ~~~o := by
  ext i hi
  simp only [BitVec.getElem_and, BitVec.getElem_or, BitVec.getElem_not]
  cases v[i] <;> cases d[i] <;> cases o[i] <;> rfl

/-- A flag write with open bits, outside them. -/
theorem writeFOpen_closed (o v : Byte) (s : State) : (writeFOpen o v s).regs.closed o = { s.regs with f := v }.closed o := by
  simp only [writeFOpen_eq, setF, State.mapRegs_regs, State.nextDraw_regs, Regs.closed, closed_open]

end Sys2Proof.Machine
end

