-- ==== Sys2Proof/Laws/Events.lean ====
section
/-! SUPPORT. The event queue: insertion, what the external side and the handlers leave alone, and the line arithmetic of the event check. -/

namespace Sys2Proof.Machine

/-! ### Insertion -/

theorem insertEvent_length (e : Event) (q : List Event) : (insertEvent e q).length = q.length + 1 := by
  induction q with
  | nil => rfl
  | cons h t ih => by_cases hd : e.due < h.due <;> simp [insertEvent, hd, ih]

theorem mem_insertEvent {e x : Event} {q : List Event} : x ∈ insertEvent e q ↔ x = e ∨ x ∈ q := by
  induction q with
  | nil => simp [insertEvent]
  | cons h t ih =>
    by_cases hd : e.due < h.due
    · simp [insertEvent, hd]
    · simp only [insertEvent, hd, if_false, List.mem_cons, ih]
      tauto

theorem insertEvent_sorted (e : Event) {q : List Event} (h : q.Pairwise fun a b => a.due ≤ b.due) :
    (insertEvent e q).Pairwise fun a b => a.due ≤ b.due := by
  induction q with
  | nil => simp [insertEvent]
  | cons x t ih =>
    rw [List.pairwise_cons] at h
    by_cases hd : e.due < x.due
    · simp only [insertEvent, hd, if_true, List.pairwise_cons]
      refine ⟨fun b hb => ?_, h⟩
      rcases List.mem_cons.1 hb with rfl | hb
      · exact hd.le
      · exact hd.le.trans (h.1 b hb)
    · simp only [insertEvent, hd, if_false, List.pairwise_cons]
      refine ⟨fun b hb => ?_, ih h.2⟩
      rcases mem_insertEvent.1 hb with rfl | hb
      · exact Nat.le_of_not_lt hd
      · exact h.1 b hb

/-! ### What the external side leaves alone -/

/-- From `s` to `t` the registers, the control state, the clock and the controller are as they were, and the memory stays canonical. -/
structure OnlyExt (s t : State) : Prop where
  regs : t.regs = s.regs
  ctl : t.ctl = s.ctl
  clock : t.clock = s.clock
  fdc : t.fdc = s.fdc
  mem : Memory.wf s.mem = true → Memory.wf t.mem = true

theorem OnlyExt.refl (s : State) : OnlyExt s s := ⟨rfl, rfl, rfl, rfl, id⟩

theorem OnlyExt.trans {s t u : State} (h : OnlyExt s t) (k : OnlyExt t u) : OnlyExt s u :=
  ⟨k.regs.trans h.regs, k.ctl.trans h.ctl, k.clock.trans h.clock, k.fdc.trans h.fdc, k.mem ∘ h.mem⟩

theorem OnlyExt.nextDraw {s t : State} (h : OnlyExt s t) : OnlyExt s t.nextDraw := ⟨h.regs, h.ctl, h.clock, h.fdc, h.mem⟩

theorem OnlyExt.unlessFault {s t : State} (h : OnlyExt s t) {g : State → State} (hg : ∀ u, OnlyExt u (g u)) : OnlyExt s (unlessFault t g) := by
  unfold Machine.unlessFault
  split
  · exact h.trans (hg t)
  · exact h

theorem onlyExt_addEvent (k : EventKind) (due : Nat) (s : State) : OnlyExt s (addEvent k due s) := by
  unfold addEvent
  split <;> exact ⟨rfl, rfl, rfl, rfl, id⟩

theorem onlyExt_setIntBit (m : Byte) (l : Bool) (s : State) : OnlyExt s (setIntBit m l s) := ⟨rfl, rfl, rfl, rfl, id⟩

theorem onlyExt_extAct (x : ExtAction) (s : State) : OnlyExt s (extAct x s) := by
  cases x
  · exact onlyExt_addEvent _ _ s
  case mapByte a v => exact ⟨rfl, rfl, rfl, rfl, fun h => State.wf_pokeByte h a v⟩
  all_goals exact ⟨rfl, rfl, rfl, rfl, id⟩

theorem onlyExt_runExt (acts : List ExtAction) (s : State) : OnlyExt s (runExt acts s) := by
  unfold runExt
  induction acts generalizing s with
  | nil => exact .refl s
  | cons x more ih => exact ((OnlyExt.refl s).unlessFault (onlyExt_extAct x)).trans (ih _)

theorem onlyExt_runExtBudget (now budget : Nat) (acts : List ExtAction) (s : State) : OnlyExt s (runExtBudget now budget acts s).1 := by
  induction acts generalizing budget s with
  | nil => exact .refl s
  | cons x more ih =>
    unfold runExtBudget
    split
    · exact .refl s
    · split
      · split
        · exact ih _ _
        · exact (onlyExt_extAct x s).trans (ih _ _)
      · exact (onlyExt_extAct x s).trans (ih _ _)

theorem onlyExt_extEvent (k : EventKind) (t now budget : Nat) (s : State) : OnlyExt s (extEvent k t now budget s).1 :=
  (OnlyExt.refl s).nextDraw.trans (onlyExt_runExtBudget _ _ _ _)

theorem onlyExt_dispatch (e : Event) (now budget : Nat) (s : State) : OnlyExt s (dispatch e now budget s).1 := by
  have add := onlyExt_addEvent
  unfold dispatch
  split
  · exact ((onlyExt_setIntBit _ _ s).trans (add _ _ _)).unlessFault (add _ _)
  · exact onlyExt_setIntBit _ _ s
  · exact ((onlyExt_setIntBit _ _ s).trans (add _ _ _)).unlessFault (add _ _)
  · exact onlyExt_setIntBit _ _ s
  · exact onlyExt_setIntBit _ _ s
  · exact onlyExt_setIntBit _ _ s
  · exact onlyExt_extEvent _ _ _ _ s
  · exact onlyExt_extEvent _ _ _ _ s
  · exact onlyExt_extEvent _ _ _ _ s
  · exact onlyExt_extEvent _ _ _ _ s
  · exact ⟨rfl, rfl, rfl, rfl, id⟩
  · exact (onlyExt_extEvent _ _ _ _ s).unlessFault (add _ _)

theorem onlyExt_drainEvents (fuel now budget : Nat) (s : State) : OnlyExt s (drainEvents fuel now budget s) := by
  induction fuel generalizing budget s with
  | zero => exact .refl s
  | succ n ih =>
    unfold drainEvents
    split
    · exact .refl s
    · split
      · next e rest _ _ =>
        have h : OnlyExt s (dispatch e now budget (s.setEvents rest)).1 :=
          OnlyExt.trans (t := s.setEvents rest) ⟨rfl, rfl, rfl, rfl, id⟩ (onlyExt_dispatch e now budget _)
        simp only
        split
        · exact h
        · exact h.trans (ih _ _)
      · exact .refl s

/-- The event check drains the queue and runs handlers: registers, control state and controller are as they were, and of the clock only the
four counters of R1010 and R1012 move. -/
theorem onlyExt_checkEvents (now budget : Nat) (s : State) : OnlyExt s (checkEvents now budget s) := onlyExt_drainEvents _ _ _ s

theorem unlessFault_none {s : State} (h : s.fault = none) (g : State → State) : unlessFault s g = g s := by simp [unlessFault, h]

/-! ### Lines -/

/-- Ending `n` lines (R1012), all of them at once. -/
theorem endLines_eq (n : Nat) (s : State) (h : 0 < n) :
    endLines n s = s.mapClock fun k =>
      { k with
        lineCycle := k.lineCycle - Config.cyclesPerLine * n
        lineCycleMark := k.lineCycleMark - Config.cyclesPerLine * n
        line := k.line + n
        maybeContended := lineContended (k.line + n)
        frameEnd := k.frameEnd || decide (Config.linesPerFrame ≤ k.line + n) } := by
  induction n generalizing s with
  | zero => exact absurd h (Nat.lt_irrefl 0)
  | succ n ih =>
    rcases Nat.eq_zero_or_pos n with rfl | hn
    · rfl
    · have e0 : endLines (n + 1) s = endLines n (endOfLine s) := by rw [endLines]
      rw [e0, ih _ hn]
      have e1 : ∀ x : Nat, x - Config.cyclesPerLine - Config.cyclesPerLine * n = x - Config.cyclesPerLine * (n + 1) := fun x => by
        rw [Nat.sub_sub, Nat.mul_succ, Nat.add_comm]
      have e2 : s.clock.line + 1 + n = s.clock.line + (n + 1) := by omega
      have e3 : (s.clock.frameEnd || decide (Config.linesPerFrame ≤ s.clock.line + 1) ||
          decide (Config.linesPerFrame ≤ s.clock.line + (n + 1))) =
          (s.clock.frameEnd || decide (Config.linesPerFrame ≤ s.clock.line + (n + 1))) := by
        by_cases h1 : Config.linesPerFrame ≤ s.clock.line + 1
        · simp [h1, show Config.linesPerFrame ≤ s.clock.line + (n + 1) from h1.trans (by omega)]
        · simp [h1]
      simp only [endOfLine, State.mapClock, e1, e2, e3]

end Sys2Proof.Machine
end

