-- ==== Sys2Proof/Laws/Fdc.lean ====
section
/-! SUPPORT. The controller's operations change the controller and the draws and nothing else; the calls on the disk change the disk alone; the
parse of a format write needs no more turns than bytes. -/

namespace Sys2Proof.Machine

/-- From `s` to `t` only the controller, its disk and the draws may have changed. -/
structure OnlyFdc (s t : State) : Prop where
  regs : t.regs = s.regs
  ctl : t.ctl = s.ctl
  clock : t.clock = s.clock
  sig : t.sig = s.sig
  events : t.events = s.events
  mem : t.mem = s.mem
  paging : t.paging = s.paging
  fault : t.fault = s.fault

theorem OnlyFdc.refl (s : State) : OnlyFdc s s := ⟨rfl, rfl, rfl, rfl, rfl, rfl, rfl, rfl⟩

theorem OnlyFdc.trans {s t u : State} (h : OnlyFdc s t) (k : OnlyFdc t u) : OnlyFdc s u :=
  ⟨k.regs.trans h.regs, k.ctl.trans h.ctl, k.clock.trans h.clock, k.sig.trans h.sig, k.events.trans h.events, k.mem.trans h.mem,
    k.paging.trans h.paging, k.fault.trans h.fault⟩

theorem OnlyFdc.mapFdc {s t : State} (h : OnlyFdc s t) (g : Fdc → Fdc) : OnlyFdc s (t.mapFdc g) := h.trans ⟨rfl, rfl, rfl, rfl, rfl, rfl, rfl, rfl⟩

theorem OnlyFdc.nextDraw {s t : State} (h : OnlyFdc s t) : OnlyFdc s t.nextDraw := h.trans ⟨rfl, rfl, rfl, rfl, rfl, rfl, rfl, rfl⟩

/-! ### Operations that are updates of the controller -/

theorem OnlyFdc.endCommand {s t : State} (h : OnlyFdc s t) (st : Byte) : OnlyFdc s (endCommand st t) :=
  ⟨h.regs, h.ctl, h.clock, h.sig, h.events, h.mem, h.paging, h.fault⟩

theorem OnlyFdc.orStatus {s t : State} (h : OnlyFdc s t) (v : Byte) : OnlyFdc s (orStatus v t) :=
  ⟨h.regs, h.ctl, h.clock, h.sig, h.events, h.mem, h.paging, h.fault⟩

theorem OnlyFdc.setFoundId {s t : State} (h : OnlyFdc s t) (id : IdField) (c : Word) : OnlyFdc s (setFoundId id c t) :=
  ⟨h.regs, h.ctl, h.clock, h.sig, h.events, h.mem, h.paging, h.fault⟩

theorem OnlyFdc.armTransfer {s t : State} (h : OnlyFdc s t) (n : Nat) (st : Byte) : OnlyFdc s (armTransfer n st t) :=
  ⟨h.regs, h.ctl, h.clock, h.sig, h.events, h.mem, h.paging, h.fault⟩

theorem OnlyFdc.armRead {s t : State} (h : OnlyFdc s t) (b : List Byte) (st : Byte) : OnlyFdc s (armRead b st t) :=
  ⟨h.regs, h.ctl, h.clock, h.sig, h.events, h.mem, h.paging, h.fault⟩

theorem OnlyFdc.setDisk {s t : State} (h : OnlyFdc s t) (d : Option Disk) : OnlyFdc s (setDisk d t) :=
  ⟨h.regs, h.ctl, h.clock, h.sig, h.events, h.mem, h.paging, h.fault⟩

/-! ### The calls on the disk -/

theorem onlyFdc_rawAnswer (d : Disk) (s : State) : OnlyFdc s (rawAnswer d s).2 := by
  cases d
  · exact .refl s
  · exact (OnlyFdc.refl s).nextDraw

theorem onlyFdc_diskFindInit (s : State) : OnlyFdc s (diskFindInit s).2 := by
  unfold diskFindInit
  split
  · exact .refl s
  · exact (onlyFdc_rawAnswer _ s).setDisk _

theorem onlyFdc_diskFindNext (s : State) : OnlyFdc s (diskFindNext s).2 := by
  unfold diskFindNext
  split
  · exact .refl s
  · exact (onlyFdc_rawAnswer _ s).setDisk _

theorem onlyFdc_diskReadData (s : State) : OnlyFdc s (diskReadData s).2 := by
  unfold diskReadData
  split
  · exact .refl s
  · exact onlyFdc_rawAnswer _ s

theorem onlyFdc_diskWriteData (bytes : List Byte) (s : State) : OnlyFdc s (diskWriteData bytes s).2 := by
  unfold diskWriteData
  split
  · exact .refl s
  · exact (onlyFdc_rawAnswer _ s).setDisk _

theorem onlyFdc_diskFormatTrack (ss : List (IdField × List Byte)) (s : State) : OnlyFdc s (diskFormatTrack ss s).2 := by
  unfold diskFormatTrack
  split
  · exact .refl s
  · exact (onlyFdc_rawAnswer _ s).setDisk _

theorem onlyFdc_diskIsBusy (s : State) : OnlyFdc s (diskIsBusy s).2 := by
  unfold diskIsBusy
  split
  · exact .refl s
  · exact onlyFdc_rawAnswer _ s

theorem onlyFdc_diskIsReadOnly (s : State) : OnlyFdc s (diskIsReadOnly s).2 := by
  unfold diskIsReadOnly
  split
  · exact .refl s
  · exact onlyFdc_rawAnswer _ s

/-! ### Lazy execution -/

theorem onlyFdc_scanSector (fuel : Nat) (crcSeen : Bool) (s : State) : OnlyFdc s (scanSector fuel crcSeen s).2 := by
  induction fuel generalizing crcSeen s with
  | zero => exact .refl s
  | succ n ih =>
    have h := onlyFdc_diskFindNext s
    simp only [scanSector]
    split
    · exact h
    · split
      · split
        · exact h
        · exact h.trans (ih _ _)
      · exact h.trans (ih _ _)

theorem onlyFdc_findSector (s : State) : OnlyFdc s (findSector s).2 := by
  have h := onlyFdc_diskFindInit s
  have k : OnlyFdc s
      (if (diskFindInit s).1 then scanSector (scanBound (diskFindInit s).2) false (diskFindInit s).2
        else ((none, false), (diskFindInit s).2)).2 := by
    split
    · exact h.trans (onlyFdc_scanSector _ _ _)
    · exact h
  unfold findSector
  simp only
  split
  · exact k
  · exact k.endCommand _

theorem onlyFdc_execRead (s : State) : OnlyFdc s (execRead s) := by
  have h := onlyFdc_findSector s
  unfold execRead
  simp only
  split
  · exact h
  · next id _ =>
    have k := (h.setFoundId id (idCrc id)).trans (onlyFdc_diskReadData _)
    split
    · exact (k.orStatus _).armRead _ _
    · exact k.endCommand _

theorem onlyFdc_execWrite (s : State) : OnlyFdc s (execWrite s) := by
  have h := onlyFdc_findSector s
  unfold execWrite
  simp only
  split
  · exact h
  · exact (h.setFoundId _ _).armTransfer _ _

theorem onlyFdc_execReadAddress (s : State) : OnlyFdc s (execReadAddress s) := by
  have h := onlyFdc_diskFindInit s
  have k := h.trans (onlyFdc_diskFindNext (diskFindInit s).2)
  unfold execReadAddress
  simp only
  split
  · split
    · exact k.endCommand _
    · exact (k.setFoundId _ _).armRead _ _
  · exact h.endCommand _

theorem onlyFdc_scanTrack (fuel : Nat) (s : State) : OnlyFdc s (scanTrack fuel s).2 := by
  induction fuel generalizing s with
  | zero => exact .refl s
  | succ n ih =>
    have h := onlyFdc_diskFindNext s
    simp only [scanTrack]
    split
    · exact h
    · exact (h.trans (onlyFdc_diskReadData _)).trans (ih _)

theorem onlyFdc_execReadTrack (s : State) : OnlyFdc s (execReadTrack s) := by
  have h := onlyFdc_diskFindInit s
  unfold execReadTrack
  simp only
  split
  · exact (h.trans (onlyFdc_scanTrack _ _)).armRead _ _
  · exact h.armRead _ _

theorem onlyFdc_executeNext (s : State) : OnlyFdc s (executeNext s) := by
  have h := onlyFdc_diskIsBusy s
  unfold executeNext
  simp only
  split
  · exact (OnlyFdc.refl s).endCommand _
  · have k : OnlyFdc s ((diskIsBusy s).2.mapFdc fun f => { f with state := f.state + 1 }) := h.mapFdc _
    split
    · exact h
    · split
      · exact h.endCommand _
      · repeat' split
        · exact k.trans (onlyFdc_execRead _)
        · exact k.trans (onlyFdc_execWrite _)
        · exact k.trans (onlyFdc_execReadAddress _)
        · exact k.trans (onlyFdc_execReadTrack _)
        · exact k.armTransfer _ _
        · exact k

/-! ### Completion, the data register, the status register -/

theorem onlyFdc_complete (s : State) : OnlyFdc s (complete s) := by
  have next : ∀ t, OnlyFdc t (nextSector t) := fun t => ((OnlyFdc.refl t).mapFdc _).trans (onlyFdc_executeNext _)
  have hf := onlyFdc_diskWriteData (s.fdc.buf.take s.fdc.bufLen) s
  have hp := onlyFdc_diskFormatTrack (parseFormat s.fdc.buf s.fdc.bufLen) s
  unfold complete flush
  simp only
  repeat' split
  · exact (OnlyFdc.refl s).endCommand _
  · exact next s
  · exact (OnlyFdc.refl s).endCommand _
  · exact hf.endCommand _
  · exact hf.trans (next _)
  · exact hf.endCommand _
  · exact ((OnlyFdc.refl s).mapFdc _).endCommand _
  · exact (OnlyFdc.refl s).endCommand _
  · exact hp.endCommand _
  · exact .refl s

theorem onlyFdc_advanceTransfer (s : State) : OnlyFdc s (advanceTransfer s) := by
  have h := (OnlyFdc.refl s).mapFdc (fun f => { f with bufPos := f.bufPos + 1 })
  unfold advanceTransfer
  simp only
  split
  · exact (h.mapFdc _).trans (onlyFdc_complete _)
  · exact h

theorem onlyFdc_fdcDataRead (s : State) : OnlyFdc s (fdcDataRead s).2 := by
  unfold fdcDataRead
  split
  · exact ((OnlyFdc.refl s).mapFdc _).trans (onlyFdc_advanceTransfer _)
  · exact .refl s

theorem onlyFdc_fdcDataWrite (v : Byte) (s : State) : OnlyFdc s (fdcDataWrite v s) := by
  have h := (OnlyFdc.refl s).mapFdc (fun f => { f with data := v })
  unfold fdcDataWrite
  simp only
  split
  · exact (h.mapFdc _).trans (onlyFdc_advanceTransfer _)
  · exact h

theorem onlyFdc_indexPulse (s : State) : OnlyFdc s (indexPulse s).2 := by
  unfold indexPulse
  split
  · exact .refl s
  · exact ⟨rfl, rfl, rfl, rfl, rfl, rfl, rfl, rfl⟩

theorem onlyFdc_fdcStatusRead (s : State) : OnlyFdc s (fdcStatusRead s).2 := by
  have h : OnlyFdc s (if fdcBusy s && !fdcDrq s then executeNext s else s) := by
    split
    · exact onlyFdc_executeNext s
    · exact .refl s
  unfold fdcStatusRead
  revert h
  generalize (if fdcBusy s && !fdcDrq s then executeNext s else s) = u
  intro h
  simp only
  split
  · exact h.trans (onlyFdc_indexPulse _)
  · exact h

/-! ### Commands, ports, the frame tick -/

theorem onlyFdc_fdcCommand (code : Byte) (side : Bool) (flags : BitVec 4) (g : State → State) (hg : ∀ t, OnlyFdc t (g t)) (s : State) :
    OnlyFdc s (fdcCommand code side flags g s) := by
  unfold fdcCommand
  split
  · exact .refl s
  · exact ((OnlyFdc.refl s).mapFdc _).trans (hg _)

theorem onlyFdc_engageMotor (s : State) : OnlyFdc s (engageMotor s) := ((OnlyFdc.refl s).mapFdc _).orStatus _

theorem onlyFdc_startBusyCommand (s : State) : OnlyFdc s (startBusyCommand s) := by
  have h := onlyFdc_engageMotor s
  have k : OnlyFdc s (if fdcIsWrite (engageMotor s).fdc.cmd then diskIsReadOnly (engageMotor s) else (false, engageMotor s)).2 := by
    split
    · exact h.trans (onlyFdc_diskIsReadOnly _)
    · exact h
  unfold startBusyCommand
  revert k
  simp only
  generalize (if fdcIsWrite (engageMotor s).fdc.cmd = true then diskIsReadOnly (engageMotor s) else (false, engageMotor s)) = u
  intro k
  split
  · exact k.orStatus _
  · exact k.orStatus _

theorem onlyFdc_fdcCommandWrite (side : Bool) (v : Byte) (s : State) : OnlyFdc s (fdcCommandWrite side v s) := by
  have e := onlyFdc_engageMotor
  unfold fdcCommandWrite
  simp only
  split
  all_goals refine onlyFdc_fdcCommand _ _ _ _ (fun t => ?_) s
  all_goals first
    | exact onlyFdc_startBusyCommand t
    | exact .refl t
    | exact ⟨(e t).regs, (e t).ctl, (e t).clock, (e t).sig, (e t).events, (e t).mem, (e t).paging, (e t).fault⟩

theorem onlyFdc_fdcIn (port : Word) (s : State) : OnlyFdc s (fdcIn port s).2 := by
  unfold fdcIn
  split
  · exact onlyFdc_fdcStatusRead s
  · exact .refl s
  · exact .refl s
  · exact onlyFdc_fdcDataRead s

theorem onlyFdc_fdcOut (port : Word) (v : Byte) (s : State) : OnlyFdc s (fdcOut port v s) := by
  unfold fdcOut
  split
  · exact onlyFdc_fdcCommandWrite _ v s
  · exact (OnlyFdc.refl s).mapFdc _
  · exact (OnlyFdc.refl s).mapFdc _
  · exact onlyFdc_fdcDataWrite v s

theorem onlyFdc_fdcFrameTick (s : State) : OnlyFdc s (fdcFrameTick s) := by
  have h := (OnlyFdc.refl s).mapFdc (fun f => { f with motorFrames := f.motorFrames - 1 })
  unfold fdcFrameTick diskClose
  split
  · exact .refl s
  · simp only
    split
    · split
      · split <;> exact ⟨h.regs, h.ctl, h.clock, h.sig, h.events, h.mem, h.paging, h.fault⟩
      · exact ⟨h.regs, h.ctl, h.clock, h.sig, h.events, h.mem, h.paging, h.fault⟩
    · exact h

/-! ### The buffer -/

/-- A byte put into the buffer is read back, and every other place reads as before. -/
theorem getD_putAt (b : List Byte) (p : Nat) (v : Byte) (k : Nat) : (putAt b p v).getD k 0#8 = if k = p then v else b.getD k 0#8 := by
  induction b generalizing p k with
  | nil =>
    induction p generalizing k with
    | zero => cases k <;> simp [putAt]
    | succ p ih => cases k <;> simp_all [putAt]
  | cons x b ih => cases p <;> cases k <;> simp_all [putAt]

/-! ### What the calls on the disk keep -/

/-- From `s` to `t` the controller may have changed in its disk alone, and a free disk is still a free disk. -/
structure OnlyDisk (s t : State) : Prop where
  fdc : t.fdc = { s.fdc with disk := t.fdc.disk }
  free : (∃ d, s.fdc.disk = some (.device d)) → ∃ d, t.fdc.disk = some (.device d)

theorem OnlyDisk.refl (s : State) : OnlyDisk s s := ⟨rfl, id⟩

theorem OnlyDisk.trans {s t u : State} (h : OnlyDisk s t) (k : OnlyDisk t u) : OnlyDisk s u :=
  ⟨by rw [k.fdc, h.fdc], fun x => k.free (h.free x)⟩

theorem onlyDisk_rawAnswer (d : Disk) (s : State) : OnlyDisk s (rawAnswer d s).2 := by cases d <;> exact ⟨rfl, id⟩

theorem onlyDisk_diskFindInit (s : State) : OnlyDisk s (diskFindInit s).2 := by
  unfold diskFindInit
  split
  · exact .refl s
  · next d hd =>
    cases d
    · exact ⟨rfl, fun ⟨_, h⟩ => by simp [hd] at h⟩
    · exact ⟨rfl, fun _ => ⟨_, rfl⟩⟩

theorem onlyDisk_diskFindNext (s : State) : OnlyDisk s (diskFindNext s).2 := by
  unfold diskFindNext
  split
  · exact .refl s
  · next d hd =>
    cases d
    · exact ⟨rfl, fun ⟨_, h⟩ => by simp [hd] at h⟩
    · refine ⟨rfl, fun _ => ?_⟩
      simp only [Disk.findNext]
      split <;> exact ⟨_, rfl⟩

theorem onlyDisk_diskReadData (s : State) : OnlyDisk s (diskReadData s).2 := by
  unfold diskReadData
  split
  · exact .refl s
  · exact onlyDisk_rawAnswer _ s

theorem onlyDisk_diskIsBusy (s : State) : OnlyDisk s (diskIsBusy s).2 := by
  unfold diskIsBusy
  split
  · exact .refl s
  · exact onlyDisk_rawAnswer _ s

/-- An ID that a call found is the one a free disk reads from next. -/
theorem diskFindNext_last {s : State} {id : IdField} {st : Byte} (h : (diskFindNext s).1 = some (id, st)) (d : DiskDevice)
    (hd : (diskFindNext s).2.fdc.disk = some (.device d)) : d.last = some id := by
  unfold diskFindNext at h hd
  split at h
  · simp at h
  · next e he =>
    simp only [he] at hd
    cases e with
    | image e => simp [Disk.findNext, setDisk] at hd
    | device e =>
      simp only [Disk.findNext] at h hd
      split at h
      · next c =>
        rw [if_pos c] at hd
        simp [setDisk] at hd h
        rw [← hd]
        simp [h.1]
      · simp at h

/-! ### The parse of a format write (R1172) -/

/-- The size of a sector as a power of two. -/
theorem sectorSize_eq (code : Byte) : Config.sectorSize code = 128 * 2 ^ (code.toNat % 4) := by
  revert code
  decide +kernel

theorem parseLoop_past (fuel : Nat) (buf : List Byte) {len p : Nat} (pending : Option IdField) (h : len ≤ p) :
    parseLoop fuel buf len p pending = [] := by
  cases fuel with
  | zero => rfl
  | succ n => simp [parseLoop, Nat.not_lt.2 h]

/-- Turns beyond the bytes that are left change nothing. -/
theorem parseLoop_fuel (buf : List Byte) (len f g p : Nat) (pending : Option IdField) (hf : len - p ≤ f) (hg : len - p ≤ g) :
    parseLoop f buf len p pending = parseLoop g buf len p pending := by
  induction f generalizing g p pending with
  | zero => rw [parseLoop_past _ _ _ (by omega), parseLoop_past _ _ _ (by omega)]
  | succ f ih =>
    by_cases hp : p < len
    · obtain ⟨g, rfl⟩ : ∃ k, g = k + 1 := ⟨g - 1, by omega⟩
      have e (q : Nat) (x : Option IdField) (hq : p < q) := ih g q x (by omega) (by omega)
      have e1 (x : Option IdField) := e (p + 1) x (by omega)
      have e5 (x : Option IdField) := e (p + 5) x (by omega)
      have en (n : Nat) (x : Option IdField) := e (p + 1 + n) x (by omega)
      simp only [parseLoop, e1, e5, en]
    · rw [parseLoop_past _ _ _ (by omega), parseLoop_past _ _ _ (by omega)]

end Sys2Proof.Machine
end

