-- ==== Sys2Proof/Laws/Operands.lean ====
section
/-! SUPPORT. What each shared operation of Operands.lean and Exchange.lean does, said once, in terms of the accesses it makes and the registers
it writes. -/

namespace Sys2Proof.Machine

theorem alu_eq (op : AluOp) (v : Byte) (s : State) :
    alu op v s = s.mapRegs fun g => g.withAF (aluResult op s.regs.a v s.regs.f) := rfl

theorem aluAt_eq (op : AluOp) (a : Word) (s : State) :
    aluAt op a s = (memCharge a s).mapRegs fun g => g.withAF (aluResult op s.regs.a (s.byteAt a) s.regs.f) := rfl

theorem modifyAt_eq (a : Word) (g : Byte → Byte) (s : State) : modifyAt a g s = memWriteByte a (g (s.byteAt a)) (memCharge a s) := rfl

theorem modifyAtCopy_eq (a : Word) (g : Byte → Byte) (r : Reg8) (s : State) :
    modifyAtCopy a g r s = setR r (g (s.byteAt a)) (memWriteByte a (g (s.byteAt a)) (memCharge a s)) := rfl

theorem incAt_eq (a : Word) (s : State) :
    incAt a s = setF (incFlags (s.byteAt a) (s.byteAt a + 1#8) s.regs.f) (memWriteByte a (s.byteAt a + 1#8) (memCharge a s)) := rfl

theorem decAt_eq (a : Word) (s : State) :
    decAt a s = setF (decFlags (s.byteAt a) (s.byteAt a - 1#8) s.regs.f) (memWriteByte a (s.byteAt a - 1#8) (memCharge a s)) := rfl

theorem rotAt_eq (op : RotOp) (a : Word) (s : State) :
    rotAt op a s =
      let p := rotate op (s.byteAt a) (fC s.regs.f)
      (p.1, setF (rotFlags p.1 p.2) (memWriteByte a p.1 (memCharge a s))) := rfl

theorem rotAtCopy_eq (op : RotOp) (a : Word) (r : Reg8) (s : State) :
    rotAtCopy op a r s =
      let p := rotate op (s.byteAt a) (fC s.regs.f)
      setR r p.1 (setF (rotFlags p.1 p.2) (memWriteByte a p.1 (memCharge a s))) := rfl

theorem bitAtEa_eq (b : BitVec 3) (a : Word) (s : State) :
    bitAtEa b a s = setF (bitFlags b (s.byteAt a) (hiByte a) s.regs.f) (memCharge a s) := rfl

theorem loadR_eq (r : Reg8) (a : Word) (s : State) : loadR r a s = setR r (s.byteAt a) (memCharge a s) := rfl

theorem loadWord_eq (a : Word) (wr : Word → State → State) (s : State) :
    loadWord a wr s = wr (s.wordAt a) (memCharge (a + 1#16) (memCharge a s)) := rfl

theorem popTo_eq (wr : Word → State → State) (s : State) :
    popTo wr s =
      wr (s.wordAt s.regs.sp) (setSp (s.regs.sp + 2#16) (memCharge (s.regs.sp + 1#16) (memCharge s.regs.sp s))) := rfl

theorem call_eq (target : Word) (s : State) :
    call target s = setPc target (memWriteWord (s.regs.sp - 2#16) s.regs.pc (setSp (s.regs.sp - 2#16) s)) := rfl

theorem exchangeStack_eq (x : IndexMode) (s : State) :
    exchangeStack x s =
      setX x (s.wordAt s.regs.sp)
        (memWriteWord s.regs.sp (getX x s) (memCharge (s.regs.sp + 1#16) (memCharge s.regs.sp s))) := by cases x <;> rfl

theorem returnFromInterrupt_eq (s : State) :
    returnFromInterrupt s = setIffs s.ctl.iff2 s.ctl.iff2 (popTo setPc s) := rfl

/-- One iteration of a block transfer: a read at HL, a write at DE, and the registers of R506. -/
theorem blockLoad_eq (delta : Word) (s : State) :
    blockLoad delta s =
      (memWriteByte (getDe s) (s.byteAt (getHl s)) (memCharge (getHl s) s)).mapRegs fun _ => blockLoadRegs delta s.regs.pc s := by
  simp only [blockLoad, memReadByte_eq, writeF_eq, setF, setBc, setDe, setHl, State.mapRegs, memWriteByte_eq]
  rfl

/-- One iteration of a block search: a read at HL, and the registers of R510. -/
theorem blockCompare_eq (delta : Word) (s : State) :
    blockCompare delta s =
      (s.regs.a == s.byteAt (getHl s), (memCharge (getHl s) s).mapRegs fun _ => blockCompareRegs delta s.regs.pc s) := rfl

/-! ### Writes of registers add no access -/

theorem Did.setR {b t : State} {l : List Access} (h : Did b t l) (r : Reg8) (v : Byte) : Did b (Machine.setR r v t) l :=
  ⟨h.bytes, h.clock, h.sig, h.events, h.fdc, h.paging, h.fault⟩

theorem Did.setF {b t : State} {l : List Access} (h : Did b t l) (v : Byte) : Did b (Machine.setF v t) l :=
  ⟨h.bytes, h.clock, h.sig, h.events, h.fdc, h.paging, h.fault⟩

theorem Did.setPc {b t : State} {l : List Access} (h : Did b t l) (v : Word) : Did b (Machine.setPc v t) l :=
  ⟨h.bytes, h.clock, h.sig, h.events, h.fdc, h.paging, h.fault⟩

theorem Did.setSp {b t : State} {l : List Access} (h : Did b t l) (v : Word) : Did b (Machine.setSp v t) l :=
  ⟨h.bytes, h.clock, h.sig, h.events, h.fdc, h.paging, h.fault⟩

theorem Did.setBc {b t : State} {l : List Access} (h : Did b t l) (v : Word) : Did b (Machine.setBc v t) l :=
  ⟨h.bytes, h.clock, h.sig, h.events, h.fdc, h.paging, h.fault⟩

theorem Did.setDe {b t : State} {l : List Access} (h : Did b t l) (v : Word) : Did b (Machine.setDe v t) l :=
  ⟨h.bytes, h.clock, h.sig, h.events, h.fdc, h.paging, h.fault⟩

theorem Did.setHl {b t : State} {l : List Access} (h : Did b t l) (v : Word) : Did b (Machine.setHl v t) l :=
  ⟨h.bytes, h.clock, h.sig, h.events, h.fdc, h.paging, h.fault⟩

theorem Did.setIffs {b t : State} {l : List Access} (h : Did b t l) (x y : Bool) : Did b (Machine.setIffs x y t) l :=
  ⟨h.bytes, h.clock, h.sig, h.events, h.fdc, h.paging, h.fault⟩

/-- A push makes two writes below SP. -/
theorem Did.push {b t : State} {l : List Access} (h : Did b t l) (hw : Memory.wf t.mem = true) (v : Word) :
    Did b (push16 v t) (l ++ writesWord (t.regs.sp - 2#16) v) := by
  have h1 := Did.setSp h (t.regs.sp - 2#16)
  have hw1 : Memory.wf (Machine.setSp (t.regs.sp - 2#16) t).mem = true := hw
  rw [push16_eq]
  exact Did.writeWord h1 hw1 (t.regs.sp - 2#16) v

/-- A call makes two writes below SP. -/
theorem Did.call {b t : State} {l : List Access} (h : Did b t l) (hw : Memory.wf t.mem = true) (target : Word) :
    Did b (call target t) (l ++ writesWord (t.regs.sp - 2#16) t.regs.pc) :=
  Did.setPc (Did.push h hw t.regs.pc) target

/-- A return makes two reads at SP. -/
theorem Did.ret {b t : State} {l : List Access} (h : Did b t l) : Did b (popTo Machine.setPc t) (l ++ readsWord t.regs.sp) := by
  have h1 := Did.readWord h t.regs.sp
  rw [popTo_eq]
  exact Did.setPc (Did.setSp h1 (t.regs.sp + 2#16)) (t.wordAt t.regs.sp)

/-- A signed displacement, as arithmetic on integers (00_scope.md R12). -/
theorem add_signExtend (a : Word) (e : Byte) : a + e.signExtend 16 = BitVec.ofInt 16 (a.toNat + e.toInt) := by
  rw [BitVec.ofInt_add]
  simp [BitVec.signExtend]

theorem Did.setX {b t : State} {l : List Access} (h : Did b t l) (x : IndexMode) (v : Word) : Did b (setX x v t) l := by
  cases x <;> exact ⟨h.bytes, h.clock, h.sig, h.events, h.fdc, h.paging, h.fault⟩

theorem Did.setRp {b t : State} {l : List Access} (h : Did b t l) (p : RP) (v : Word) : Did b (setRp p v t) l := by
  cases p <;> exact ⟨h.bytes, h.clock, h.sig, h.events, h.fdc, h.paging, h.fault⟩

theorem Did.setRp2 {b t : State} {l : List Access} (h : Did b t l) (p : RP2) (v : Word) : Did b (setRp2 p v t) l := by
  cases p <;> exact ⟨h.bytes, h.clock, h.sig, h.events, h.fdc, h.paging, h.fault⟩

theorem Did.setRx {b t : State} {l : List Access} (h : Did b t l) (x : IndexMode) (r : Reg8) (v : Byte) : Did b (setRx x r v t) l := by
  cases x <;> cases r <;> exact ⟨h.bytes, h.clock, h.sig, h.events, h.fdc, h.paging, h.fault⟩

/-! ### Registers read back -/

theorem hiByte_ofBytes (h l : Byte) : hiByte (.ofBytes h l) = h := by
  ext i hi
  simp only [hiByte, Word.ofBytes, BitVec.getElem_extractLsb', BitVec.getLsbD_append]
  rw [if_neg (by omega)]
  simp [BitVec.getLsbD_eq_getElem hi]

theorem loByte_ofBytes (h l : Byte) : loByte (.ofBytes h l) = l := by
  ext i hi
  simp only [loByte, Word.ofBytes, BitVec.getElem_extractLsb', BitVec.getLsbD_append]
  rw [if_pos (by omega)]
  simp [BitVec.getLsbD_eq_getElem hi]

theorem ofBytes_hi_lo (w : Word) : Word.ofBytes (hiByte w) (loByte w) = w := by
  ext i hi
  simp only [hiByte, loByte, Word.ofBytes]
  rw [← BitVec.getLsbD_eq_getElem, ← BitVec.getLsbD_eq_getElem, BitVec.getLsbD_append]
  by_cases h : i < 8
  · simp [h]
  · have h1 : i - 8 < 8 := by omega
    have h2 : 8 + (i - 8) = i := by omega
    simp [h, h1, h2]

/-- Reading a register after writing one. -/
theorem getR_setR (r q : Reg8) (v : Byte) (s : State) : getR q (setR r v s) = if q = r then v else getR q s := by
  cases r <;> cases q <;> rfl

/-- Reading a pair back after writing it. -/
theorem getRp_setRp (p : RP) (v : Word) (s : State) : getRp p (setRp p v s) = v := by
  cases p
  case sp => rfl
  all_goals exact ofBytes_hi_lo v

/-- Reading an index register back after writing it. -/
theorem getX_setX (x : IndexMode) (v : Word) (s : State) : getX x (setX x v s) = v := by
  cases x
  case hl => exact ofBytes_hi_lo v
  all_goals rfl

end Sys2Proof.Machine
end

