-- ==== Sys2Proof/Laws/Interrupts.lean ====
section
/-! SUPPORT. Taking an interrupt: what both kinds do first, said once, and when a maskable one is accepted. -/

namespace Sys2Proof.Machine

/-- The address an interrupt returns to: a halted CPU resumes after its HALT (60_exceptions.md R906 (1)). -/
def returnAddress (s : State) : Word := if s.ctl.halted then s.regs.pc + 1#16 else s.regs.pc

theorem leaveHalt_eq (s : State) : leaveHalt s = (s.mapRegs fun g => { g with pc := returnAddress s }).mapCtl fun k => { k with halted := false } := by
  unfold leaveHalt returnAddress
  cases h : s.ctl.halted
  · rw [if_neg (by simp), if_neg (by simp)]
    show s = { s with ctl := { s.ctl with halted := false } }
    rw [← h]
  · rfl

theorem saveReturn_eq (s : State) :
    saveReturn s = push16 (returnAddress s)
      ((s.mapRegs fun g => { g with pc := returnAddress s, r := bumpRefresh g.r }).mapCtl fun k => { k with halted := false }) := by
  unfold saveReturn
  rw [leaveHalt_eq]
  rfl

/-- The return address goes to the two bytes below SP. -/
theorem saveReturn_did {s : State} (h : Memory.wf s.mem = true) :
    Did s (saveReturn s) (writesWord (s.regs.sp - 2#16) (returnAddress s)) := by
  rw [saveReturn_eq]
  exact Did.push (((Did.refl s).mapRegs _).mapCtl _) h (returnAddress s)

@[simp] theorem saveReturn_regs (s : State) :
    (saveReturn s).regs = { s.regs with pc := returnAddress s, sp := s.regs.sp - 2#16, r := refreshed s.regs.r } := by
  rw [saveReturn_eq, push16_eq]
  simp [memWriteWord, setSp, State.mapRegs, State.mapCtl, bumpRefresh, refreshed]

@[simp] theorem saveReturn_ctl (s : State) : (saveReturn s).ctl = { s.ctl with halted := false } := by
  rw [saveReturn_eq, push16_eq]
  simp [memWriteWord, setSp]

@[simp] theorem saveReturn_draws (s : State) : (saveReturn s).draws = s.draws := by
  rw [saveReturn_eq, push16_eq]
  simp [memWriteWord, setSp]

theorem wf_saveReturn {s : State} (h : Memory.wf s.mem = true) : Memory.wf (saveReturn s).mem = true := by
  rw [saveReturn_eq, push16_eq, memWriteWord]
  exact wf_memWriteByte (wf_memWriteByte (by exact h) _ _) _ _

/-- A maskable interrupt in mode 0 or 1. -/
theorem takeInterrupt_fixed {s : State} (h : s.ctl.im ≠ .im2) :
    takeInterrupt .maskable s = spend 13 2 (setPc Config.intVector (setIffs false false (saveReturn s))) := by
  have e : (setIffs false false (saveReturn s)).ctl.im = s.ctl.im := by simp [setIffs]
  simp only [takeInterrupt, e]

/-- A maskable interrupt in mode 2: the table is read after the push. -/
theorem takeInterrupt_table {s : State} (h : s.ctl.im = .im2) :
    takeInterrupt .maskable s =
      let t := setIffs false false (saveReturn s)
      let va := Word.ofBytes s.regs.i Config.im2BusByte
      spend 19 4 (setPc (t.wordAt va) (memCharge (va + 1#16) (memCharge va t))) := by
  have e : (setIffs false false (saveReturn s)).ctl.im = s.ctl.im := by simp [setIffs]
  have i : (setIffs false false (saveReturn s)).regs.i = s.regs.i := by simp [setIffs]
  simp only [takeInterrupt, e, h, memReadWord_eq, im2Entry, i]

/-- A non-maskable interrupt. -/
theorem takeInterrupt_nmi (s : State) :
    takeInterrupt .nmi s = spend 11 2 (setPc Config.nmiVector (setIffs false s.ctl.iff2 (saveReturn s))) := by
  simp [takeInterrupt]

/-- The acceptance test (60_exceptions.md R905). -/
theorem acceptsInterrupt_iff (s : State) : acceptsInterrupt s = true ↔
    (s.sig.intStatus &&& 0x1F#8 ≠ 0x1F#8 ∧ s.ctl.iff1 = true ∧ s.ctl.afterEiDi = false ∧ s.ctl.idx = .hl) := by
  simp [acceptsInterrupt, intMask, and_assoc]

end Sys2Proof.Machine
end

