-- ==== Sys2Proof/Laws/Fetch.lean ====
section
/-! SUPPORT. Fetching an instruction and the parts of a step around its execution, each said once. -/

namespace Sys2Proof.Machine

/-- The charge of a list of accesses reads the timing state and the paging alone. -/
theorem cyclesAfter_congr {s t : State} (hc : s.clock = t.clock) (hp : s.paging = t.paging) (l : List Access) (m n : Nat) :
    cyclesAfter l m n s = cyclesAfter l m n t := by
  induction l generalizing s t with
  | nil => simp only [cyclesAfter, List.foldl_nil, hc]
  | cons x l ih =>
    refine ih (s := memCharge x.addr s) (t := memCharge x.addr t) ?_ hp
    show { s.clock with lineCycle := chargedCycle x.addr s } = { t.clock with lineCycle := chargedCycle x.addr t }
    rw [hc, chargedCycle_congr hc hp]

theorem cyclesAfter_cons (x : Access) (l : List Access) (m n : Nat) (s : State) :
    cyclesAfter (x :: l) m n s = cyclesAfter l m n (memCharge x.addr s) := rfl

theorem fetch8_eq (s : State) : fetch8 s = (s.byteAt s.regs.pc, setPc (s.regs.pc + 1#16) (memCharge s.regs.pc s)) := rfl

/-- The operand bytes: PC moves past them and each is charged. -/
theorem fetchOperands_eq (n : Nat) (s : State) :
    fetchOperands n s =
      { s with
        regs := { s.regs with pc := s.regs.pc + .ofNat 16 n }
        clock := { s.clock with lineCycle := cyclesAfter (readsFrom s.regs.pc n) 0 0 s } } := by
  induction n generalizing s with
  | zero => simp [fetchOperands, readsFrom, cyclesAfter, Config.extra]
  | succ n ih =>
    have e : s.regs.pc + 1#16 + BitVec.ofNat 16 n = s.regs.pc + BitVec.ofNat 16 (n + 1) := by
      rw [BitVec.add_assoc, Nat.add_comm n 1, BitVec.ofNat_add]
    have c : cyclesAfter (readsFrom (s.regs.pc + 1#16) n) 0 0 (setPc (s.regs.pc + 1#16) (memCharge s.regs.pc s)) =
        cyclesAfter (readsFrom s.regs.pc (n + 1)) 0 0 s :=
      cyclesAfter_congr (s := setPc (s.regs.pc + 1#16) (memCharge s.regs.pc s)) (t := memCharge s.regs.pc s) rfl rfl _ _ _
    have p : (fetch8 s).2.regs.pc = s.regs.pc + 1#16 := rfl
    rw [fetchOperands, ih, p, e]
    simp only [fetch8_eq, c]
    rfl

/-- Whether the first byte of an instruction of a table is an opcode fetch, which counts R (10_state.md R116). -/
def countsRefresh : OpTable → Bool
  | .ddcb | .fdcb => false
  | _ => true

/-- Fetching the instruction at PC leaves the state `fetched` says. -/
theorem fetchInstr_eq {s : State} {i : Instr} {n : Nat} (h : decodeAt s = (i, n + 1)) :
    fetchInstr s = (i, fetched (n + 1) (countsRefresh s.ctl.table) s) := by
  have key : ∀ t : State, t.clock = { s.clock with lineCycle := chargedCycle s.regs.pc s } → t.paging = s.paging →
      t.regs.pc = s.regs.pc + 1#16 → cyclesAfter (readsFrom t.regs.pc n) 0 0 t = cyclesAfter (readsFrom s.regs.pc (n + 1)) 0 0 s := by
    intro t hc hp hpc
    rw [hpc]
    exact cyclesAfter_congr (t := memCharge s.regs.pc s) hc hp _ _ _
  have e : s.regs.pc + 1#16 + BitVec.ofNat 16 n = s.regs.pc + BitVec.ofNat 16 (n + 1) := by
    rw [BitVec.add_assoc, Nat.add_comm n 1, BitVec.ofNat_add]
  have k1 := key (fetch8 s).2 rfl rfl rfl
  have k2 := key (fetchOp s).2 rfl rfl rfl
  have p1 : (fetch8 s).2.regs.pc + BitVec.ofNat 16 n = s.regs.pc + BitVec.ofNat 16 (n + 1) := e
  have p2 : (fetchOp s).2.regs.pc + BitVec.ofNat 16 n = s.regs.pc + BitVec.ofNat 16 (n + 1) := e
  simp only [fetchInstr, h, Nat.add_sub_cancel]
  cases s.ctl.table <;> simp only [fetchOperands_eq, k1, k2, p1, p2, countsRefresh] <;> rfl

/-- The event check leaves the control state, the registers and the controller alone. -/
theorem onlyExt_eventCheck (s : State) : (eventCheck s).regs = s.regs ∧ (eventCheck s).ctl = s.ctl ∧ (eventCheck s).fdc = s.fdc := by
  have h := fun t => onlyExt_checkEvents t.clock.cycleCounter (Config.extEventBudget t.draws) t
  have k := h (endLines ((syncCounter s).clock.lineCycle / Config.cyclesPerLine) (syncCounter s))
  have e : ∀ n, (endLines n (syncCounter s)).regs = s.regs ∧ (endLines n (syncCounter s)).ctl = s.ctl ∧
      (endLines n (syncCounter s)).fdc = s.fdc := by
    intro n
    rcases Nat.eq_zero_or_pos n with rfl | hn
    · exact ⟨rfl, rfl, rfl⟩
    · rw [endLines_eq n _ hn]; exact ⟨rfl, rfl, rfl⟩
  exact ⟨k.regs.trans (e _).1, k.ctl.trans (e _).2.1, k.fdc.trans (e _).2.2⟩

/-- A running machine's step is what follows the event check. -/
theorem step_running {s : State} (h : s.Running) (hf : (eventCheck s).fault = none) : step s = afterCheck (eventCheck s) := by
  obtain ⟨h1, h2, h3⟩ := h
  simp only [step, machineStep, h1, atFrameBoundary, h2, h3, cpuStep, hf]
  rfl

end Sys2Proof.Machine
end

