-- ==== Sys2Proof/Laws/Ports.lean ====
section
/-! SUPPORT. What a port access leaves alone, whichever side of R233 it goes to. -/

namespace Sys2Proof.Machine

/-- From `s` to `t` the registers and the control state are as they were, of the clock only the line-cycle counter moved, and the memory stays
canonical. -/
structure PortOnly (s t : State) : Prop where
  regs : t.regs = s.regs
  ctl : t.ctl = s.ctl
  clock : t.clock = { s.clock with lineCycle := t.clock.lineCycle }
  mem : Memory.wf s.mem = true → Memory.wf t.mem = true

theorem portOnly_of_fdc {s t : State} (p : Word) (h : OnlyFdc (portCharge p s) t) : PortOnly s t :=
  ⟨h.regs, h.ctl, by rw [h.clock]; rfl, fun hw => by rw [h.mem]; exact hw⟩

theorem portOnly_of_ext {s t : State} (p : Word) (h : OnlyExt (portCharge p s) t) : PortOnly s t :=
  ⟨h.regs, h.ctl, by rw [h.clock]; rfl, fun hw => h.mem hw⟩

theorem onlyExt_extIn (p : Word) (s : State) : OnlyExt s (extIn p s).2 := (OnlyExt.refl s).nextDraw.trans (onlyExt_runExt _ _)

theorem onlyExt_extOut (p : Word) (v : Byte) (s : State) : OnlyExt s (extOut p v s) := (OnlyExt.refl s).nextDraw.trans (onlyExt_runExt _ _)

theorem portOnly_portRead (p : Word) (s : State) : PortOnly s (portRead p s).2 := by
  unfold portRead
  simp only
  split
  · exact portOnly_of_fdc p (onlyFdc_fdcIn p _)
  · exact portOnly_of_ext p (onlyExt_extIn p _)

theorem portOnly_portWrite (p : Word) (v : Byte) (s : State) : PortOnly s (portWrite p v s) := by
  unfold portWrite
  simp only
  split
  · exact portOnly_of_fdc p (onlyFdc_fdcOut p v _)
  · exact portOnly_of_ext p (onlyExt_extOut p v _)

/-- The line-cycle counter after a port access (20_memory.md R232). -/
theorem portRead_lineCycle (p : Word) (s : State) : (portRead p s).2.clock.lineCycle = portChargedCycle p s := by
  unfold portRead
  simp only
  split
  · rw [(onlyFdc_fdcIn p _).clock]; rfl
  · rw [(onlyExt_extIn p _).clock]; rfl

theorem portWrite_lineCycle (p : Word) (v : Byte) (s : State) : (portWrite p v s).clock.lineCycle = portChargedCycle p s := by
  unfold portWrite
  simp only
  split
  · rw [(onlyFdc_fdcOut p v _).clock]; rfl
  · rw [(onlyExt_extOut p v _).clock]; rfl

/-- A controller port never raises the fault. -/
theorem portRead_fault {p : Word} (hp : isFdcPort p = true) (s : State) : (portRead p s).2.fault = s.fault := by
  simp only [portRead, hp, if_true]
  rw [(onlyFdc_fdcIn p _).fault]; rfl

theorem portWrite_fault {p : Word} (hp : isFdcPort p = true) (v : Byte) (s : State) : (portWrite p v s).fault = s.fault := by
  simp only [portWrite, hp, if_true]
  rw [(onlyFdc_fdcOut p v _).fault]; rfl

end Sys2Proof.Machine
end

