-- ==== Sys2Proof/Tests/Slice0.lean ====
section
/-! SUPPORT. Tests: what WellFormed refuses, words written out from the encodings of the spec, worked examples of the rules (one step each), and
for every statement with hypotheses a state that meets them. -/

open Sys2Proof Sys2Proof.Machine

namespace Sys2Proof.Tests

/-! ### WellFormed refuses operands outside an instruction's row -/

theorem test_wf_edNop : WellFormed (.edNop 0x40#8) = false ∧ WellFormed (.edNop 0xA0#8) = false := by decide
theorem test_wf_ldAtNnDd : WellFormed (.ldAtNnDd .hl 0#16) = false := by decide
theorem test_wf_ldDdAtNn : WellFormed (.ldDdAtNn .hl 0#16) = false := by decide
theorem test_wf_negMirror : WellFormed (.negMirror 0#3) = false := by decide
theorem test_wf_im0Mirror : WellFormed (.im0Mirror 0#3) = false ∧ WellFormed (.im0Mirror 2#3) = false := by decide
theorem test_wf_retnMirror : WellFormed (.retnMirror 0#3) = false ∧ WellFormed (.retnMirror 1#3) = false := by decide
theorem test_wf_nopEd77 : WellFormed (.nopEd77 5#3) = false := by decide
theorem test_wf_ldRRIx : WellFormed (.ldRRIx .a .b) = false := by decide
theorem test_wf_ldRRIy : WellFormed (.ldRRIy .c .d) = false := by decide

/-! ### Decoding: one word for each constructor, from the encodings of 30_encoding.md and of the instruction's rule -/

/-- Each list of bytes decodes, all of it, to the instruction beside it. -/
def reads (l : List (List Byte × Instr)) : Bool :=
  l.all fun p =>
    match decode p.2.space p.1 with
    | .ok (i, rest) => i == p.2 && rest.isEmpty
    | .error _ => false

theorem test_decode_main_0 : reads [
    ([0x00#8], .nop), ([0x21#8, 0x9E#8, 0x38#8], .ldDdNn .hl 0x389E#16), ([0x02#8], .ldAtBcA), ([0x33#8], .incSs .sp),
    ([0x2C#8], .incR .l), ([0x05#8], .decR .b), ([0x06#8, 0xE3#8], .ldRN .b 0xE3#8), ([0x07#8], .rlca), ([0x08#8], .exAfAf),
    ([0x09#8], .addHlSs .bc), ([0x0A#8], .ldAAtBc), ([0x2B#8], .decSs .hl), ([0x0F#8], .rrca), ([0x10#8, 0xA6#8], .djnz 0xA6#8),
    ([0x12#8], .ldAtDeA), ([0x17#8], .rla), ([0x18#8, 0x1F#8], .jr 0x1F#8), ([0x1A#8], .ldAAtDe), ([0x1F#8], .rra),
    ([0x20#8, 0xF9#8], .jrNz 0xF9#8), ([0x22#8, 0xE7#8, 0x93#8], .ldAtNnHl 0x93E7#16), ([0x27#8], .daa), ([0x28#8, 0x47#8], .jrZ 0x47#8),
    ([0x2A#8, 0x99#8, 0x1B#8], .ldHlAtNn 0x1B99#16), ([0x2F#8], .cpl), ([0x30#8, 0x27#8], .jrNc 0x27#8),
    ([0x32#8, 0x03#8, 0x81#8], .ldAtNnA 0x8103#16), ([0x34#8], .incAtHl)] = true := by decide

theorem test_decode_main_1 : reads [
    ([0x35#8], .decAtHl), ([0x36#8, 0x7C#8], .ldAtHlN 0x7C#8), ([0x37#8], .scf), ([0x38#8, 0x22#8], .jrC 0x22#8),
    ([0x3A#8, 0x9C#8, 0x4F#8], .ldAAtNn 0x4F9C#16), ([0x3F#8], .ccf), ([0x44#8], .ldRR .b .h), ([0x5E#8], .ldRAtHl .e),
    ([0x70#8], .ldAtHlR .b), ([0x76#8], .halt), ([0x87#8], .addAR .a), ([0x86#8], .addAAtHl), ([0xC6#8, 0xA1#8], .addAN 0xA1#8),
    ([0x88#8], .adcAR .b), ([0x8E#8], .adcAAtHl), ([0xCE#8, 0x4A#8], .adcAN 0x4A#8), ([0x95#8], .subR .l), ([0x96#8], .subAtHl),
    ([0xD6#8, 0xB1#8], .subN 0xB1#8), ([0x9C#8], .sbcAR .h), ([0x9E#8], .sbcAAtHl), ([0xDE#8, 0x20#8], .sbcAN 0x20#8),
    ([0xA4#8], .andR .h), ([0xA6#8], .andAtHl), ([0xE6#8, 0xA6#8], .andN 0xA6#8), ([0xAB#8], .xorR .e), ([0xAE#8], .xorAtHl),
    ([0xEE#8, 0x1D#8], .xorN 0x1D#8)] = true := by decide

theorem test_decode_main_2 : reads [
    ([0xB1#8], .orR .c), ([0xB6#8], .orAtHl), ([0xF6#8, 0x1C#8], .orN 0x1C#8), ([0xBC#8], .cpR .h), ([0xBE#8], .cpAtHl),
    ([0xFE#8, 0xEC#8], .cpN 0xEC#8), ([0xD0#8], .retCc .nc), ([0xE1#8], .popQq .hl), ([0xF2#8, 0xED#8, 0x36#8], .jpCcNn .p 0x36ED#16),
    ([0xC3#8, 0x6A#8, 0x9C#8], .jpNn 0x9C6A#16), ([0xCC#8, 0x27#8, 0xA4#8], .callCcNn .z 0xA427#16), ([0xE5#8], .pushQq .hl),
    ([0xD7#8], .rst 2#3), ([0xC9#8], .ret), ([0xCB#8], .prefixCb), ([0xCD#8, 0x61#8, 0x2C#8], .callNn 0x2C61#16),
    ([0xD3#8, 0xA5#8], .outNA 0xA5#8), ([0xD9#8], .exx), ([0xDB#8, 0xA3#8], .inAN 0xA3#8), ([0xDD#8], .prefixDd), ([0xE3#8], .exAtSpHl),
    ([0xE9#8], .jpHl), ([0xEB#8], .exDeHl), ([0xED#8], .prefixEd), ([0xF3#8], .di), ([0xF9#8], .ldSpHl), ([0xFB#8], .ei),
    ([0xFD#8], .prefixFd)] = true := by decide

theorem test_decode_cb_0 : reads [
    ([0xCB#8, 0x05#8], .rlcR .l), ([0xCB#8, 0x06#8], .rlcAtHl), ([0xCB#8, 0x09#8], .rrcR .c), ([0xCB#8, 0x0E#8], .rrcAtHl),
    ([0xCB#8, 0x12#8], .rlR .d), ([0xCB#8, 0x16#8], .rlAtHl), ([0xCB#8, 0x18#8], .rrR .b), ([0xCB#8, 0x1E#8], .rrAtHl),
    ([0xCB#8, 0x24#8], .slaR .h), ([0xCB#8, 0x26#8], .slaAtHl), ([0xCB#8, 0x2D#8], .sraR .l), ([0xCB#8, 0x2E#8], .sraAtHl),
    ([0xCB#8, 0x31#8], .sll 1#3), ([0xCB#8, 0x3C#8], .srlR .h), ([0xCB#8, 0x3E#8], .srlAtHl), ([0xCB#8, 0x44#8], .bitR 0#3 .h),
    ([0xCB#8, 0x5E#8], .bitAtHl 3#3), ([0xCB#8, 0xBD#8], .resR 7#3 .l), ([0xCB#8, 0xB6#8], .resAtHl 6#3),
    ([0xCB#8, 0xEB#8], .setR 5#3 .e), ([0xCB#8, 0xFE#8], .setAtHl 7#3)] = true := by decide

theorem test_decode_ed_0 : reads [
    ([0xED#8, 0xC7#8], .edNop 0xC7#8), ([0xED#8, 0x50#8], .inRC .d), ([0xED#8, 0x49#8], .outCR .c), ([0xED#8, 0x52#8], .sbcHlSs .de),
    ([0xED#8, 0x73#8, 0xA2#8, 0xD9#8], .ldAtNnDd .sp 0xD9A2#16), ([0xED#8, 0x44#8], .neg), ([0xED#8, 0x45#8], .retn),
    ([0xED#8, 0x46#8], .im0), ([0xED#8, 0x47#8], .ldIA), ([0xED#8, 0x5A#8], .adcHlSs .de),
    ([0xED#8, 0x4B#8, 0x0D#8, 0xA5#8], .ldDdAtNn .bc 0xA50D#16), ([0xED#8, 0x5C#8], .negMirror 3#3), ([0xED#8, 0x4D#8], .reti),
    ([0xED#8, 0x66#8], .im0Mirror 4#3), ([0xED#8, 0x4F#8], .ldRA), ([0xED#8, 0x75#8], .retnMirror 6#3), ([0xED#8, 0x56#8], .im1),
    ([0xED#8, 0x57#8], .ldAI), ([0xED#8, 0x5E#8], .im2), ([0xED#8, 0x5F#8], .ldAR),
    ([0xED#8, 0x63#8, 0xBC#8, 0xCC#8], .ldAtNnHlEd 0xCCBC#16), ([0xED#8, 0x67#8], .rrd),
    ([0xED#8, 0x6B#8, 0xE6#8, 0x84#8], .ldHlAtNnEd 0x84E6#16), ([0xED#8, 0x6F#8], .rld), ([0xED#8, 0x70#8], .inFC),
    ([0xED#8, 0x71#8], .outC0), ([0xED#8, 0x76#8], .im1Mirror), ([0xED#8, 0x77#8], .nopEd77 6#3)] = true := by decide

theorem test_decode_ed_1 : reads [
    ([0xED#8, 0x7E#8], .im2Mirror), ([0xED#8, 0xA0#8], .ldi), ([0xED#8, 0xA1#8], .cpi), ([0xED#8, 0xA2#8], .ini),
    ([0xED#8, 0xA3#8], .outi), ([0xED#8, 0xA8#8], .ldd), ([0xED#8, 0xA9#8], .cpd), ([0xED#8, 0xAA#8], .ind), ([0xED#8, 0xAB#8], .outd),
    ([0xED#8, 0xB0#8], .ldir), ([0xED#8, 0xB1#8], .cpir), ([0xED#8, 0xB2#8], .inir), ([0xED#8, 0xB3#8], .otir), ([0xED#8, 0xB8#8], .lddr),
    ([0xED#8, 0xB9#8], .cpdr), ([0xED#8, 0xBA#8], .indr), ([0xED#8, 0xBB#8], .otdr)] = true := by decide

theorem test_decode_dd_0 : reads [
    ([0xDD#8, 0x09#8], .addIxPp .bc), ([0xDD#8, 0x21#8, 0x39#8, 0x30#8], .ldIxNn 0x3039#16),
    ([0xDD#8, 0x22#8, 0x0E#8, 0x95#8], .ldAtNnIx 0x950E#16), ([0xDD#8, 0x23#8], .incIx), ([0xDD#8, 0x24#8], .incIxh),
    ([0xDD#8, 0x25#8], .decIxh), ([0xDD#8, 0x26#8, 0x7C#8], .ldIxhN 0x7C#8), ([0xDD#8, 0x2A#8, 0x3A#8, 0x3C#8], .ldIxAtNn 0x3C3A#16),
    ([0xDD#8, 0x2B#8], .decIx), ([0xDD#8, 0x2C#8], .incIxl), ([0xDD#8, 0x2D#8], .decIxl), ([0xDD#8, 0x2E#8, 0xD2#8], .ldIxlN 0xD2#8),
    ([0xDD#8, 0x34#8, 0x68#8], .incAtIx 0x68#8), ([0xDD#8, 0x35#8, 0x37#8], .decAtIx 0x37#8),
    ([0xDD#8, 0x36#8, 0x8E#8, 0x7C#8], .ldAtIxN 0x8E#8 0x7C#8), ([0xDD#8, 0x44#8], .ldRRIx .b .h),
    ([0xDD#8, 0x7E#8, 0x9F#8], .ldRAtIx .a 0x9F#8), ([0xDD#8, 0x74#8, 0xDB#8], .ldAtIxR .h 0xDB#8), ([0xDD#8, 0x84#8], .addAIxh),
    ([0xDD#8, 0x85#8], .addAIxl), ([0xDD#8, 0x86#8, 0xF1#8], .addAAtIx 0xF1#8), ([0xDD#8, 0x8C#8], .adcAIxh),
    ([0xDD#8, 0x8D#8], .adcAIxl), ([0xDD#8, 0x8E#8, 0xE2#8], .adcAAtIx 0xE2#8), ([0xDD#8, 0x94#8], .subIxh), ([0xDD#8, 0x95#8], .subIxl),
    ([0xDD#8, 0x96#8, 0x61#8], .subAtIx 0x61#8), ([0xDD#8, 0x9C#8], .sbcAIxh)] = true := by decide

theorem test_decode_dd_1 : reads [
    ([0xDD#8, 0x9D#8], .sbcAIxl), ([0xDD#8, 0x9E#8, 0x68#8], .sbcAAtIx 0x68#8), ([0xDD#8, 0xA4#8], .andIxh), ([0xDD#8, 0xA5#8], .andIxl),
    ([0xDD#8, 0xA6#8, 0xC2#8], .andAtIx 0xC2#8), ([0xDD#8, 0xAC#8], .xorIxh), ([0xDD#8, 0xAD#8], .xorIxl),
    ([0xDD#8, 0xAE#8, 0x6A#8], .xorAtIx 0x6A#8), ([0xDD#8, 0xB4#8], .orIxh), ([0xDD#8, 0xB5#8], .orIxl),
    ([0xDD#8, 0xB6#8, 0xA9#8], .orAtIx 0xA9#8), ([0xDD#8, 0xBC#8], .cpIxh), ([0xDD#8, 0xBD#8], .cpIxl),
    ([0xDD#8, 0xBE#8, 0x90#8], .cpAtIx 0x90#8), ([0xDD#8, 0xCB#8], .prefixDdcb), ([0xDD#8, 0xE1#8], .popIx),
    ([0xDD#8, 0xE3#8], .exAtSpIx), ([0xDD#8, 0xE5#8], .pushIx), ([0xDD#8, 0xE9#8], .jpIx), ([0xDD#8, 0xED#8], .prefixEdIdx),
    ([0xDD#8, 0xF9#8], .ldSpIx)] = true := by decide

theorem test_decode_fd_0 : reads [
    ([0xFD#8, 0x39#8], .addIyRr .sp), ([0xFD#8, 0x21#8, 0x9A#8, 0x23#8], .ldIyNn 0x239A#16),
    ([0xFD#8, 0x22#8, 0x08#8, 0xE9#8], .ldAtNnIy 0xE908#16), ([0xFD#8, 0x23#8], .incIy), ([0xFD#8, 0x24#8], .incIyh),
    ([0xFD#8, 0x25#8], .decIyh), ([0xFD#8, 0x26#8, 0x28#8], .ldIyhN 0x28#8), ([0xFD#8, 0x2A#8, 0x1A#8, 0x57#8], .ldIyAtNn 0x571A#16),
    ([0xFD#8, 0x2B#8], .decIy), ([0xFD#8, 0x2C#8], .incIyl), ([0xFD#8, 0x2D#8], .decIyl), ([0xFD#8, 0x2E#8, 0x8A#8], .ldIylN 0x8A#8),
    ([0xFD#8, 0x34#8, 0xC3#8], .incAtIy 0xC3#8), ([0xFD#8, 0x35#8, 0xBB#8], .decAtIy 0xBB#8),
    ([0xFD#8, 0x36#8, 0x21#8, 0x20#8], .ldAtIyN 0x21#8 0x20#8), ([0xFD#8, 0x6D#8], .ldRRIy .l .l),
    ([0xFD#8, 0x6E#8, 0xA4#8], .ldRAtIy .l 0xA4#8), ([0xFD#8, 0x75#8, 0xE3#8], .ldAtIyR .l 0xE3#8), ([0xFD#8, 0x84#8], .addAIyh),
    ([0xFD#8, 0x85#8], .addAIyl), ([0xFD#8, 0x86#8, 0x83#8], .addAAtIy 0x83#8), ([0xFD#8, 0x8C#8], .adcAIyh),
    ([0xFD#8, 0x8D#8], .adcAIyl), ([0xFD#8, 0x8E#8, 0x59#8], .adcAAtIy 0x59#8), ([0xFD#8, 0x94#8], .subIyh), ([0xFD#8, 0x95#8], .subIyl),
    ([0xFD#8, 0x96#8, 0xC8#8], .subAtIy 0xC8#8), ([0xFD#8, 0x9C#8], .sbcAIyh)] = true := by decide

theorem test_decode_fd_1 : reads [
    ([0xFD#8, 0x9D#8], .sbcAIyl), ([0xFD#8, 0x9E#8, 0x73#8], .sbcAAtIy 0x73#8), ([0xFD#8, 0xA4#8], .andIyh), ([0xFD#8, 0xA5#8], .andIyl),
    ([0xFD#8, 0xA6#8, 0xF4#8], .andAtIy 0xF4#8), ([0xFD#8, 0xAC#8], .xorIyh), ([0xFD#8, 0xAD#8], .xorIyl),
    ([0xFD#8, 0xAE#8, 0xBC#8], .xorAtIy 0xBC#8), ([0xFD#8, 0xB4#8], .orIyh), ([0xFD#8, 0xB5#8], .orIyl),
    ([0xFD#8, 0xB6#8, 0x69#8], .orAtIy 0x69#8), ([0xFD#8, 0xBC#8], .cpIyh), ([0xFD#8, 0xBD#8], .cpIyl),
    ([0xFD#8, 0xBE#8, 0x16#8], .cpAtIy 0x16#8), ([0xFD#8, 0xCB#8], .prefixFdcb), ([0xFD#8, 0xE1#8], .popIy),
    ([0xFD#8, 0xE3#8], .exAtSpIy), ([0xFD#8, 0xE5#8], .pushIy), ([0xFD#8, 0xE9#8], .jpIy), ([0xFD#8, 0xF9#8], .ldSpIy)] = true := by decide

theorem test_decode_ddcb_0 : reads [
    ([0xDD#8, 0xCB#8, 0x87#8, 0x02#8], .rlcAtIxR 0x87#8 .d), ([0xDD#8, 0xCB#8, 0x3C#8, 0x06#8], .rlcAtIx 0x3C#8),
    ([0xDD#8, 0xCB#8, 0xAD#8, 0x08#8], .rrcAtIxR 0xAD#8 .b), ([0xDD#8, 0xCB#8, 0x8F#8, 0x0E#8], .rrcAtIx 0x8F#8),
    ([0xDD#8, 0xCB#8, 0x20#8, 0x11#8], .rlAtIxR 0x20#8 .c), ([0xDD#8, 0xCB#8, 0xD5#8, 0x16#8], .rlAtIx 0xD5#8),
    ([0xDD#8, 0xCB#8, 0x5A#8, 0x19#8], .rrAtIxR 0x5A#8 .c), ([0xDD#8, 0xCB#8, 0xCE#8, 0x1E#8], .rrAtIx 0xCE#8),
    ([0xDD#8, 0xCB#8, 0x50#8, 0x23#8], .slaAtIxR 0x50#8 .e), ([0xDD#8, 0xCB#8, 0x75#8, 0x26#8], .slaAtIx 0x75#8),
    ([0xDD#8, 0xCB#8, 0xFB#8, 0x2F#8], .sraAtIxR 0xFB#8 .a), ([0xDD#8, 0xCB#8, 0x90#8, 0x2E#8], .sraAtIx 0x90#8),
    ([0xDD#8, 0xCB#8, 0x25#8, 0x32#8], .sllAtIx 0x25#8 2#3), ([0xDD#8, 0xCB#8, 0x83#8, 0x3B#8], .srlAtIxR 0x83#8 .e),
    ([0xDD#8, 0xCB#8, 0x9D#8, 0x3E#8], .srlAtIx 0x9D#8), ([0xDD#8, 0xCB#8, 0x58#8, 0x57#8], .bitAtIxMirror 0x58#8 2#3 .a),
    ([0xDD#8, 0xCB#8, 0x7F#8, 0x66#8], .bitAtIx 0x7F#8 4#3), ([0xDD#8, 0xCB#8, 0xC5#8, 0xB2#8], .resAtIxR 0xC5#8 6#3 .d),
    ([0xDD#8, 0xCB#8, 0xBF#8, 0xB6#8], .resAtIx 0xBF#8 6#3), ([0xDD#8, 0xCB#8, 0x4C#8, 0xD0#8], .setAtIxR 0x4C#8 2#3 .b),
    ([0xDD#8, 0xCB#8, 0x3E#8, 0xD6#8], .setAtIx 0x3E#8 2#3)] = true := by decide

theorem test_decode_fdcb_0 : reads [
    ([0xFD#8, 0xCB#8, 0x4C#8, 0x05#8], .rlcAtIyR 0x4C#8 .l), ([0xFD#8, 0xCB#8, 0x4C#8, 0x06#8], .rlcAtIy 0x4C#8),
    ([0xFD#8, 0xCB#8, 0x14#8, 0x0B#8], .rrcAtIyR 0x14#8 .e), ([0xFD#8, 0xCB#8, 0xE5#8, 0x0E#8], .rrcAtIy 0xE5#8),
    ([0xFD#8, 0xCB#8, 0xA7#8, 0x11#8], .rlAtIyR 0xA7#8 .c), ([0xFD#8, 0xCB#8, 0x54#8, 0x16#8], .rlAtIy 0x54#8),
    ([0xFD#8, 0xCB#8, 0x59#8, 0x18#8], .rrAtIyR 0x59#8 .b), ([0xFD#8, 0xCB#8, 0x36#8, 0x1E#8], .rrAtIy 0x36#8),
    ([0xFD#8, 0xCB#8, 0x7C#8, 0x24#8], .slaAtIyR 0x7C#8 .h), ([0xFD#8, 0xCB#8, 0x6F#8, 0x26#8], .slaAtIy 0x6F#8),
    ([0xFD#8, 0xCB#8, 0xAD#8, 0x2C#8], .sraAtIyR 0xAD#8 .h), ([0xFD#8, 0xCB#8, 0x62#8, 0x2E#8], .sraAtIy 0x62#8),
    ([0xFD#8, 0xCB#8, 0x31#8, 0x30#8], .sllAtIy 0x31#8 0#3), ([0xFD#8, 0xCB#8, 0x85#8, 0x3F#8], .srlAtIyR 0x85#8 .a),
    ([0xFD#8, 0xCB#8, 0xD8#8, 0x3E#8], .srlAtIy 0xD8#8), ([0xFD#8, 0xCB#8, 0xF0#8, 0x73#8], .bitAtIyMirror 0xF0#8 6#3 .e),
    ([0xFD#8, 0xCB#8, 0x77#8, 0x76#8], .bitAtIy 0x77#8 6#3), ([0xFD#8, 0xCB#8, 0x2B#8, 0xBD#8], .resAtIyR 0x2B#8 7#3 .l),
    ([0xFD#8, 0xCB#8, 0x77#8, 0x86#8], .resAtIy 0x77#8 0#3), ([0xFD#8, 0xCB#8, 0x41#8, 0xC9#8], .setAtIyR 0x41#8 1#3 .c),
    ([0xFD#8, 0xCB#8, 0x81#8, 0xD6#8], .setAtIy 0x81#8 2#3)] = true := by decide

theorem test_decode_fdc_0 : reads [
    ([0x06#8], .fdcRestore false 0x6#4), ([0x12#8], .fdcSeek false 0x2#4), ([0x2A#8], .fdcStep false 0xA#4),
    ([0x39#8], .fdcStepUpdate false 0x9#4), ([0x46#8], .fdcStepIn false 0x6#4), ([0x52#8], .fdcStepInUpdate false 0x2#4),
    ([0x6A#8], .fdcStepOut false 0xA#4), ([0x73#8], .fdcStepOutUpdate true 0x3#4), ([0x86#8], .fdcReadSector true 0x6#4),
    ([0x98#8], .fdcReadSectors true 0x8#4), ([0xA2#8], .fdcWriteSector false 0x2#4), ([0xB8#8], .fdcWriteSectors true 0x8#4),
    ([0xC8#8], .fdcReadAddress true 0x8#4), ([0xD2#8], .fdcForceInterrupt true 0x2#4), ([0xE2#8], .fdcReadTrack false 0x2#4),
    ([0xFC#8], .fdcWriteTrack true 0xC#4)] = true := by decide


/-! ### Placing an instruction and stepping (the host's two questions) -/

/-- The state after a step. -/
def stepped (s : State) : State :=
  match step s with
  | .next t => t
  | _ => s

theorem test_decodeTableWord : decodeTableWord 8 0x3E = some (.ldRN .a 0#8) := by decide
theorem test_withFetchWord : (State.reset.withFetchWord 8 0x76).byteAt 0#16 = 0x76#8 := by decide
/-- Right after reset the step fetches and runs the instruction placed. -/
theorem test_step_halt :
    (stepped (State.reset.withFetchWord 8 0x76)).ctl.halted = true ∧ (stepped (State.reset.withFetchWord 8 0x76)).regs.pc = 0#16 := by decide
theorem test_step_two_bytes :
    (stepped (State.reset.withFetchWord 16 0x5E3E)).regs.a = 0x5E#8 ∧ (stepped (State.reset.withFetchWord 16 0x5E3E)).regs.pc = 2#16 := by
  decide
theorem test_memory_last_address : ((State.reset.pokeByte 0xFFFF#16 0x12#8).byteAt 0xFFFF#16) = 0x12#8 := by decide

/-! ### Worked examples: the **Example** part of the rule each name ends in -/

/-- The state after an instruction. -/
def after (i : Instr) (s : State) : State :=
  match exec i s with
  | .next t => t
  | _ => s

/-- A state with A and F. -/
def af (a f : Byte) : State := setF f (setR .a a State.reset)

/-- A and F of a state. -/
def afOf (s : State) : Byte × Byte := (s.regs.a, s.regs.f)

theorem test_ldRR_R401 : (after (.ldRR .a .b) (setR .b 0x12#8 State.reset)).regs.a = 0x12#8 := by decide
theorem test_ldRAtIy_R405 : (after (.ldRAtIy .a 0xFE#8) (setIy 0x5C3A#16 (State.reset.pokeByte 0x5C38#16 0x01#8))).regs.a = 0x01#8 := by
  decide
theorem test_ldAtHlR_R406 : (after (.ldAtHlR .a) (setHl 0x8000#16 (af 0x3C#8 0#8))).byteAt 0x8000#16 = 0x3C#8 := by decide
theorem test_ldAtIyN_R411 : (after (.ldAtIyN 0xFF#8 0x55#8) (setIy 0x8000#16 State.reset)).byteAt 0x7FFF#16 = 0x55#8 := by decide
theorem test_ldAI_R418 : afOf (after .ldAI (setIffs false true (setI 0x3F#8 (af 0#8 0x01#8)))) = (0x3F#8, 0x2D#8) := by decide
theorem test_ldHlAtNn_R454 :
    getHl (after (.ldHlAtNn 0x4545#16) ((State.reset.pokeByte 0x4545#16 0x37#8).pokeByte 0x4546#16 0xA1#8)) = 0xA137#16 := by decide
theorem test_ldAtNnDd_R459 :
    let t := after (.ldAtNnDd .bc 0x1000#16) (setBc 0x4644#16 State.reset)
    t.byteAt 0x1000#16 = 0x44#8 ∧ t.byteAt 0x1001#16 = 0x46#8 := by decide
theorem test_pushQq_R465 :
    let t := after (.pushQq .af) (setSp 0x1007#16 (af 0x22#8 0x33#8))
    t.regs.sp = 0x1005#16 ∧ t.byteAt 0x1005#16 = 0x33#8 ∧ t.byteAt 0x1006#16 = 0x22#8 := by decide
theorem test_popQq_R468 :
    let t := after (.popQq .hl) (setSp 0x1000#16 ((State.reset.pokeByte 0x1000#16 0x55#8).pokeByte 0x1001#16 0x33#8))
    getHl t = 0x3355#16 ∧ t.regs.sp = 0x1002#16 := by decide
theorem test_exAtSpHl_R503 :
    let t := after .exAtSpHl (setHl 0x7012#16 (setSp 0x8856#16 ((State.reset.pokeByte 0x8856#16 0x11#8).pokeByte 0x8857#16 0x22#8)))
    getHl t = 0x2211#16 ∧ t.byteAt 0x8856#16 = 0x12#8 ∧ t.byteAt 0x8857#16 = 0x70#8 := by decide
theorem test_ldi_R506 :
    let t := after .ldi (setHl 0x1111#16 (setDe 0x2222#16 (setBc 7#16 ((af 0#8 0#8).pokeByte 0x1111#16 0x88#8))))
    t.byteAt 0x2222#16 = 0x88#8 ∧ getHl t = 0x1112#16 ∧ getDe t = 0x2223#16 ∧ getBc t = 6#16 ∧ t.regs.f = 0x0C#8 := by decide
theorem test_cpi_R510 :
    let t := after .cpi (setHl 0x1111#16 (setBc 1#16 ((af 0x3B#8 0#8).pokeByte 0x1111#16 0x3B#8)))
    getBc t = 0#16 ∧ getHl t = 0x1112#16 ∧ t.regs.f = 0x42#8 := by decide
theorem test_addAR_R554 : afOf (after (.addAR .c) (setR .c 0x11#8 (af 0x44#8 0#8))) = (0x55#8, 0#8) := by decide
theorem test_adcAAtHl_R555 : afOf (after .adcAAtHl (setHl 0x6666#16 ((af 0x16#8 1#8).pokeByte 0x6666#16 0x10#8))) = (0x27#8, 0x20#8) := by
  decide
theorem test_subR_R556 : afOf (after (.subR .d) (setR .d 0x11#8 (af 0x29#8 0#8))) = (0x18#8, 0x0A#8) := by decide
theorem test_sbcAAtHl_R557 : afOf (after .sbcAAtHl (setHl 0x3433#16 ((af 0x16#8 1#8).pokeByte 0x3433#16 0x05#8))) = (0x10#8, 0x02#8) := by
  decide
theorem test_andR_R558 : afOf (after (.andR .b) (setR .b 0x7B#8 (af 0xC3#8 0#8))) = (0x43#8, 0x10#8) := by decide
theorem test_xorN_R559 : afOf (after (.xorN 0x5D#8) (af 0x96#8 0#8)) = (0xCB#8, 0x88#8) := by decide
theorem test_orR_R560 : afOf (after (.orR .h) (setR .h 0x48#8 (af 0x12#8 0#8))) = (0x5A#8, 0x0C#8) := by decide
theorem test_cpAtHl_R561 : afOf (after .cpAtHl (setHl 0x6000#16 ((af 0x63#8 0#8).pokeByte 0x6000#16 0x60#8))) = (0x63#8, 0x22#8) := by
  decide
theorem test_incR_R562 :
    let t := after (.incR .d) (setR .d 0x28#8 (af 0#8 0#8))
    t.regs.d = 0x29#8 ∧ t.regs.f = 0x28#8 := by decide
theorem test_decAtHl_R567 :
    let t := after .decAtHl (setHl 0x3434#16 ((af 0#8 1#8).pokeByte 0x3434#16 0x01#8))
    t.byteAt 0x3434#16 = 0#8 ∧ t.regs.f = 0x43#8 := by decide
theorem test_daa_R600 : afOf (after .daa (af 0x3C#8 0x28#8)) = (0x42#8, 0x14#8) := by decide
theorem test_cpl_R601 : afOf (after .cpl (af 0xB4#8 0#8)) = (0x4B#8, 0x1A#8) := by decide
theorem test_neg_R602 : afOf (after .neg (af 0x98#8 0#8)) = (0x68#8, 0x3B#8) := by decide
theorem test_halt_R606 :
    let t := after .halt (setPc 0x8001#16 State.reset)
    t.ctl.halted = true ∧ t.regs.pc = 0x8000#16 := by decide
theorem test_addHlSs_R630 :
    let t := after (.addHlSs .de) (setHl 0x4242#16 (setDe 0x1111#16 (af 0#8 0#8)))
    getHl t = 0x5353#16 ∧ t.regs.f = 0#8 := by decide
theorem test_adcHlSs_R631 :
    let t := after (.adcHlSs .bc) (setHl 0x5437#16 (setBc 0x2222#16 (af 0#8 1#8)))
    getHl t = 0x765A#16 ∧ t.regs.f = 0x20#8 := by decide
theorem test_sbcHlSs_R632 :
    let t := after (.sbcHlSs .de) (setHl 0x9999#16 (setDe 0x1111#16 (af 0#8 1#8)))
    getHl t = 0x8887#16 ∧ t.regs.f = 0x8A#8 := by decide
theorem test_rla_R661 : afOf (after .rla (af 0x76#8 1#8)) = (0xED#8, 0x28#8) := by decide
theorem test_rra_R663 : afOf (after .rra (af 0xE1#8 0#8)) = (0x70#8, 0x21#8) := by decide
theorem test_rrcR_R667 : afOf (after (.rrcR .a) (af 0x31#8 0#8)) = (0x98#8, 0x89#8) := by decide
theorem test_rlR_R668 :
    let t := after (.rlR .d) (setR .d 0x8F#8 (af 0#8 0#8))
    t.regs.d = 0x1E#8 ∧ t.regs.f = 0x0D#8 := by decide
theorem test_sraAtIx_R671 :
    let t := after (.sraAtIx 3#8) (setIx 0x1000#16 (State.reset.pokeByte 0x1003#16 0xB8#8))
    t.byteAt 0x1003#16 = 0xDC#8 ∧ t.regs.f = 0x88#8 := by decide
theorem test_rld_R673 :
    let t := after .rld (setHl 0x5000#16 ((af 0x7A#8 0#8).pokeByte 0x5000#16 0x31#8))
    afOf t = (0x73#8, 0x20#8) ∧ t.byteAt 0x5000#16 = 0x1A#8 := by decide
theorem test_rrd_R674 :
    let t := after .rrd (setHl 0x5000#16 ((af 0x84#8 0#8).pokeByte 0x5000#16 0x20#8))
    afOf t = (0x80#8, 0x80#8) ∧ t.byteAt 0x5000#16 = 0x42#8 := by decide
theorem test_bitR_R680 : (after (.bitR 2#3 .b) (setR .b 0#8 (af 0#8 0#8))).regs.f = 0x54#8 := by decide
theorem test_setR_R684 : (after (.setR 4#3 .a) (af 0#8 0#8)).regs.a = 0x10#8 := by decide
theorem test_resAtIx_R690 :
    (after (.resAtIx 0xFF#8 7#3) (setIx 0x2000#16 (State.reset.pokeByte 0x1FFF#16 0xFF#8))).byteAt 0x1FFF#16 = 0x7F#8 := by decide
/-- 62_fdc.md R1121, R1125, R1127. -/
theorem test_fdcSeek_R1121 :
    let t := (after (.fdcSeek false 0#4) (State.reset.mapFdc fun f => { f with data := 5#8 })).fdc
    t.head = 5 ∧ t.track = 5#8 ∧ t.dirIn = true ∧ t.status = 0x80#8 := by decide
theorem test_fdcStepOutUpdate_R1127 :
    let t := (after (.fdcStepOutUpdate false 0#4) State.reset).fdc
    t.head = 0 ∧ t.track = 255#8 := by decide

/-! ### Witnesses: for each statement with hypotheses, states and operands that meet them, clause by clause -/

/-- A machine with a byte in memory, HL at it and SP at the top of memory. -/
def small : State := setSp 0#16 (setHl 0x8000#16 (State.reset.pokeByte 0x8000#16 0x12#8))

theorem witness_Load8Completes : Memory.wf small.mem = true := by decide
theorem witness_LoadIndexedAndSpecialCompletes : Memory.wf small.mem = true := by decide
theorem witness_Load16Completes : Memory.wf small.mem = true := by decide
theorem witness_StackCompletes : Memory.wf small.mem = true := by decide
theorem witness_ExchangeCompletes : Memory.wf small.mem = true := by decide
theorem witness_AccumulatorOperationsComplete : Memory.wf small.mem = true := by decide
theorem witness_IncrementsComplete : Memory.wf small.mem = true := by decide
theorem witness_AccumulatorRotatesComplete : Memory.wf small.mem = true := by decide
theorem witness_RotatesComplete : Memory.wf small.mem = true := by decide
theorem witness_SetAndResetBitsComplete : Memory.wf small.mem = true := by decide

theorem witness_BlockTransferCompletes_last : Memory.wf (setBc 1#16 small).mem = true ∧ getBc (setBc 1#16 small) = 1#16 := by decide
/-- BC 0 stands for 65536 bytes and repeats. -/
theorem witness_BlockTransferCompletes_again : Memory.wf (setBc 0#16 small).mem = true ∧ getBc (setBc 0#16 small) ≠ 1#16 := by decide

theorem witness_BlockSearchCompletes_last : getBc (setBc 1#16 small) = 1#16 := by decide
theorem witness_BlockSearchCompletes_found :
    let s := setR .a 0x12#8 small
    Memory.wf s.mem = true ∧ s.byteAt (getHl s) = s.regs.a := by decide
theorem witness_BlockSearchCompletes_again :
    let s := setBc 2#16 small
    Memory.wf s.mem = true ∧ getBc s ≠ 1#16 ∧ s.byteAt (getHl s) ≠ s.regs.a := by decide

/-- Each condition both holds and fails: with F all 1 and all 0. -/
theorem witness_JumpsComplete_conditions :
    (∀ cc ∈ [Cond.z, .c, .pe, .m], condHolds cc (setF 0xFF#8 small) = true ∧ condHolds cc (setF 0#8 small) = false) ∧
    ∀ cc ∈ [Cond.nz, .nc, .po, .p], condHolds cc (setF 0xFF#8 small) = false ∧ condHolds cc (setF 0#8 small) = true := by decide
theorem witness_JumpsComplete_djnz : (setR .b 1#8 small).regs.b = 1#8 ∧ (setR .b 0#8 small).regs.b ≠ 1#8 := by decide
theorem witness_CallsAndReturnsComplete :
    Memory.wf (setF 0x40#8 small).mem = true ∧ condHolds .z (setF 0x40#8 small) = true ∧ condHolds .nz (setF 0x40#8 small) = false := by decide

theorem witness_PortInstructionsComplete :
    let s := setBc 0x00E1#16 small
    (portRead (.ofBytes s.regs.a 0xE1#8) s).2.fault = none ∧ (portRead (getBc s) s).2.fault = none ∧
    (portWrite (.ofBytes s.regs.a 0xE1#8) s.regs.a s).fault = none ∧ (portWrite (getBc s) (getR .d s) s).fault = none ∧
    (portWrite (getBc s) 0#8 s).fault = none := by decide
theorem witness_BlockPortInstructionsComplete_input :
    (∀ s ∈ [setBc 0x01E1#16 small, setBc 0x00E1#16 small], Memory.wf s.mem = true ∧ (portRead (getBc s) s).2.fault = none) ∧
    (setBc 0x01E1#16 small).regs.b - 1#8 = 0#8 ∧ (setBc 0x00E1#16 small).regs.b - 1#8 ≠ 0#8 := by decide
theorem witness_BlockPortInstructionsComplete_output :
    ∀ s ∈ [setBc 0x01E1#16 small, setBc 0x00E1#16 small],
      let m := setR .b (s.regs.b - 1#8) (memCharge (getHl s) s)
      Memory.wf s.mem = true ∧ (portWrite (getBc m) (s.byteAt (getHl s)) m).fault = none := by decide

/-! ### Witnesses: the controller -/

/-- The machine after power-on with its controller changed. -/
def withFdc (g : Fdc → Fdc) : State := State.reset.mapFdc g
/-- A sector of two bytes with the ID 3, 0, 1, 0. -/
def sector1 : Sector := ⟨⟨3#8, 0#8, 1#8, 0#8⟩, false, [0xAA#8, 0x55#8], false, false, true⟩
/-- A reference disk with that sector on the track at head 0, side 0. -/
def disk1 : DiskImage := ⟨false, false, [⟨⟨false, 0⟩, [sector1]⟩], [sector1], some ⟨false, 0⟩, 1, some 0⟩
/-- A controller busy with a command, that disk in the drive, track and sector registers naming its sector. -/
def busyWith (cmd : Byte) : State :=
  withFdc fun f => { f with status := 0x81#8, cmd := cmd, disk := some (.image disk1), track := 3#8, sector := 1#8 }

theorem witness_FdcSeekFamilyCompletes :
    let at_ (t d : Byte) := withFdc fun f => { f with track := t, data := d }
    (∀ s ∈ [at_ 0#8 255#8, at_ 255#8 0#8, at_ 7#8 7#8], s.fdc.status.getLsbD 0 = false) ∧
    (at_ 0#8 255#8).fdc.track.toNat < (at_ 0#8 255#8).fdc.data.toNat ∧ (at_ 255#8 0#8).fdc.data.toNat < (at_ 255#8 0#8).fdc.track.toNat ∧
    (at_ 7#8 7#8).fdc.track = (at_ 7#8 7#8).fdc.data := by decide
theorem witness_FdcTransferCommandsComplete :
    let device : Disk := .device ⟨false, false, 0, none⟩
    let holds (d : Option Disk) := withFdc fun f => { f with disk := d }
    (holds none).fdc.disk = none ∧ (holds (some (.image disk1))).fdc.disk = some (.image disk1) ∧
    (holds (some device)).fdc.disk = some device ∧ (holds (some device)).fdc.status.getLsbD 0 = false := by decide
theorem witness_FdcForceInterruptCompletes : (busyWith 0x80#8).fdc.status.getLsbD 0 = true := by decide
theorem witness_FdcPortsReachRegisters :
    ∀ p ∈ [(0xE0#16, 0), (0xE4#16, 0), (0xE1#16, 1), (0x12E5#16, 1), (0xE2#16, 2), (0xE6#16, 2), (0xE3#16, 3), (0xFFE7#16, 3)],
      0xE0 ≤ (loByte p.1).toNat ∧ (loByte p.1).toNat ≤ 0xE7 ∧ p.1.toNat % 4 = p.2 := by simp [loByte]
theorem witness_FdcStatusReadAtRest :
    let idle (f : Fdc) := f.status.getLsbD 0 = false ∨ f.status.getLsbD 1 = true
    let seek (f : Fdc) := f.cmd.getLsbD 7 = false ∨ f.cmd = 0xD0#8
    let counts (f : Fdc) := f.status.getLsbD 7 = true ∧ f.disk.isSome = true
    let armed : Fdc := { Fdc.reset with status := 0x83#8, cmd := 0x80#8 }
    let turning : Fdc := { Fdc.reset with status := 0x80#8, cmd := 0xD0#8, idxCount := 1023, disk := some (.image disk1) }
    (idle armed ∧ ¬seek armed) ∧ (idle Fdc.reset ∧ seek Fdc.reset ∧ ¬counts Fdc.reset) ∧ (idle turning ∧ seek turning ∧ counts turning) := by decide
theorem witness_FdcLazyExecution :
    let s := busyWith 0x80#8
    diskOk s.fdc.disk ∧ s.fdc.status.getLsbD 0 = true ∧ s.fdc.status.getLsbD 1 = false ∧
    s.fdc.cmd ∈ [0x80#8, 0x90#8, 0xA0#8, 0xB0#8, 0xC0#8, 0xE0#8, 0xF0#8] := by
  refine ⟨⟨?_, ?_⟩, ?_⟩
  · intro t ht x hx _
    simp only [disk1, List.mem_singleton] at ht
    subst ht
    simp only [List.mem_singleton] at hx
    subst hx
    decide
  · intro x hx _
    simp only [disk1, List.mem_singleton] at hx
    subst hx
    decide
  · decide
theorem witness_FdcDataRegister :
    let s (cmd : Byte) (len : Nat) : Fdc := { Fdc.reset with status := 0x83#8, cmd := cmd, buf := [1#8, 2#8], bufPos := 1, bufLen := len }
    let armed (f : Fdc) := f.status.getLsbD 1 = true
    let write (f : Fdc) := f.cmd = 0xA0#8 ∨ f.cmd = 0xB0#8 ∨ f.cmd = 0xF0#8
    let last (f : Fdc) := f.bufPos + 1 = f.bufLen
    (¬(armed Fdc.reset ∧ ¬write Fdc.reset) ∧ ¬(armed Fdc.reset ∧ write Fdc.reset)) ∧
    (armed (s 0x80#8 3) ∧ ¬write (s 0x80#8 3) ∧ ¬last (s 0x80#8 3)) ∧ (armed (s 0x80#8 2) ∧ ¬write (s 0x80#8 2) ∧ last (s 0x80#8 2)) ∧
    (armed (s 0xA0#8 3) ∧ write (s 0xA0#8 3) ∧ ¬last (s 0xA0#8 3)) ∧
    (armed (s 0xF0#8 2) ∧ write (s 0xF0#8 2) ∧ last (s 0xF0#8 2)) := by decide
theorem witness_FdcCompletion :
    (∀ c ∈ [0x80#8, 0x90#8, 0xA0#8, 0xB0#8, 0xC0#8, 0xE0#8, 0xF0#8], (busyWith c).fdc.cmd = c) ∧
    (busyWith 0x90#8).fdc.dataStatus.getLsbD 3 = false ∧
    ((busyWith 0x90#8).mapFdc fun f => { f with dataStatus := 0x08#8 }).fdc.dataStatus.getLsbD 3 = true ∧
    ((busyWith 0xF0#8).mapFdc fun f => { f with disk := none }).fdc.disk = none ∧
    (busyWith 0xB0#8).fdc.disk = some (.image disk1) ∧ (imageWriteData [1#8] disk1).1 = 0#8 ∧
    (imageWriteData [1#8] { disk1 with readOnly := true }).1 ≠ 0#8 := by decide
/-- A free disk, and the status bits its draw may leave: each of the two clauses of a flush has its value. -/
theorem witness_FdcCompletion_free :
    let free (cmd : Byte) := (busyWith cmd).mapFdc fun f => { f with disk := some (.device ⟨false, true, 3, none⟩) }
    (∀ cmd ∈ [0xA0#8, 0xB0#8, 0xF0#8], (free cmd).fdc.cmd = cmd ∧ (free cmd).fdc.disk = some (.device ⟨false, true, 3, none⟩)) ∧
    0x8F#8 &&& 0x70#8 = 0#8 ∧ 0x10#8 &&& 0x70#8 ≠ 0#8 := by decide
theorem witness_FdcSectorSearch :
    let s := busyWith 0x80#8
    let other := s.mapFdc fun f => { f with sector := 2#8 }
    let sectors := (findTrack ⟨s.fdc.side, s.fdc.head⟩ disk1.tracks).getD []
    s.fdc.disk = some (.image disk1) ∧ sectors.find? (fun x => matchesId s.fdc x && !x.idCrcErr) = some sector1 ∧
    other.fdc.disk = some (.image disk1) ∧ sectors.find? (fun x => matchesId other.fdc x && !x.idCrcErr) = none := by decide
/-- That disk with other sectors on its track, or none. -/
def diskOf (sectors : List Sector) : DiskImage := { disk1 with tracks := [⟨⟨false, 0⟩, sectors⟩] }
/-- A command in flight on such a disk. -/
def searching (cmd : Byte) (sectors : List Sector) : State :=
  (busyWith cmd).mapFdc fun f => { f with disk := some (.image (diskOf sectors)) }
/-- `sector1` without its data field. -/
def sectorNoData : Sector := { sector1 with hasData := false }
/-- `sector1` with a bad ID. -/
def sectorBadId : Sector := { sector1 with idCrcErr := true }
theorem witness_FdcReadArmsSector :
    ∀ cmd ∈ [0x80#8, 0x90#8, 0xA0#8, 0xB0#8, 0xC0#8, 0xE0#8, 0xF0#8],
      ∀ l ∈ [[sectorBadId, sector1], [sectorBadId, sectorNoData], [], [sectorBadId], [sector1]],
        let s := searching cmd l
        s.fdc.disk = some (.image (diskOf l)) ∧ s.fdc.cmd = cmd ∧ s.fdc.status.getLsbD 0 = true ∧ s.fdc.status.getLsbD 1 = false ∧
          (findTrack ⟨s.fdc.side, s.fdc.head⟩ (diskOf l).tracks).getD [] = l := by decide
theorem witness_FdcReadArmsSector_found :
    let f := (searching 0x80#8 []).fdc
    ([sectorBadId, sector1].find? (fun x => matchesId f x && !x.idCrcErr) = some sector1 ∧ sector1.hasData = true) ∧
    [sectorBadId, sectorNoData].find? (fun x => matchesId f x && !x.idCrcErr) = some sectorNoData ∧ sectorNoData.hasData = false := by decide
theorem witness_FdcReadArmsSector_armed :
    ∀ cmd ∈ [0x80#8, 0x90#8, 0xA0#8, 0xB0#8, 0xC0#8, 0xF0#8],
      (busyWith cmd).fdc.status.getLsbD 0 = true ∧ (busyWith cmd).fdc.status.getLsbD 1 = false ∧ (busyWith cmd).fdc.cmd = cmd ∧
      (fdcStatusRead (busyWith cmd)).2.fdc.status.getLsbD 1 = true := by decide +kernel
theorem witness_FdcReadArmsSector_track :
    (fdcStatusRead (searching 0xE0#8 [])).2.fdc.status.getLsbD 1 = true := by decide +kernel
theorem witness_RawTrackStream :
    let x : TrackSector := ⟨⟨0#8, 0#8, 1#8, 2#8⟩, 0#8, List.replicate 6044 0xE5#8, 0#8⟩
    [x] = x :: [] ∧ x.idStatus = 0#8 ∧ x.dataStatus.getLsbD 4 = false ∧ x.data.length ≤ 6044 :=
  ⟨rfl, rfl, rfl, (List.length_replicate ..).le⟩
/-- The places of a buffer: an ID mark at 3 whose four bytes fit in 8 bytes and not in 7, a data mark at 11 whose sector of 128 bytes fits in
140 bytes and not in 139; the end; a mark with no ID pending. -/
theorem witness_RawTrackStream_parse :
    let buf : List Byte :=
      [0xF5#8, 0xF5#8, 0xF5#8, 0xFE#8, 0#8, 0#8, 1#8, 0#8, 0xF5#8, 0xF5#8, 0xF5#8, 0xFB#8] ++ List.replicate 128 0xE5#8
    let at_ (k : Nat) : Byte := buf.getD k 0#8
    let synced (p : Nat) := at_ (p - 3) = 0xF5#8 ∧ at_ (p - 2) = 0xF5#8 ∧ at_ (p - 1) = 0xF5#8
    let idMark (p len : Nat) := synced p ∧ at_ p = 0xFE#8 ∧ p + 4 < len
    let dataMark (p : Nat) := synced p ∧ (at_ p = 0xFB#8 ∨ at_ p = 0xF8#8)
    let id : IdField := ⟨0#8, 0#8, 1#8, 0#8⟩
    let size := 128 * 2 ^ (id.size.toNat % 4)
    (idMark 3 8 ∧ ¬idMark 3 7 ∧ ¬dataMark 3) ∧ (dataMark 11 ∧ ¬idMark 11 140) ∧ 11 + 1 + size ≤ 140 ∧ 139 < 11 + 1 + size ∧ 11 < 139 ∧
    140 ≤ 140 ∧ ¬((dataMark 11) ∧ (none : Option IdField) ≠ none) := by decide
theorem witness_FdcFrameTick :
    let s (n : Nat) := withFdc fun f => { f with motorFrames := n }
    (s 0).fdc.motorFrames = 0 ∧ (s 1).fdc.motorFrames = 1 ∧ 1 < (s 2).fdc.motorFrames := by decide

/-! ### Witnesses: interrupts and the step -/

/-- A machine with the frame interrupt requested and enabled, in an interrupt mode. -/
def asking (m : IntMode) : State :=
  (small.mapCtl fun k => { k with iff1 := true, im := m }).mapSig fun g => { g with intStatus := 0xF7#8 }

theorem witness_MaskableInterrupt :
    let accepts (s : State) := s.sig.intStatus &&& 0x1F#8 ≠ 0x1F#8 ∧ s.ctl.iff1 = true ∧ s.ctl.afterEiDi = false ∧ s.ctl.idx = .hl
    (Memory.wf small.mem = true ∧ ¬accepts small) ∧
    (Memory.wf (asking .im1).mem = true ∧ accepts (asking .im1) ∧ (asking .im1).ctl.im ≠ .im2) ∧
    (Memory.wf (asking .im2).mem = true ∧ accepts (asking .im2) ∧ (asking .im2).ctl.im = .im2) := by decide
theorem witness_PseudoInterrupts :
    let s (nmi reset paused : Bool) := small.mapSig fun g => { g with nmiPending := nmi, resetPending := reset, paused := paused }
    let takes (s : State) := s.sig.nmiPending = true ∧ s.sig.paused = false ∧ s.ctl.idx = .hl
    Memory.wf (s true true false).mem = true ∧ (s true true false).sig.resetPending = true ∧
    ((s true false true).sig.resetPending = false ∧ ¬takes (s true false true)) ∧
    ((s true false false).sig.resetPending = false ∧ takes (s true false false)) := by decide

/-- Each instruction at PC runs to its end: NOP in the main table. -/
theorem witness_StepRunsDecodedInstruction :
    let s := small
    let a := acceptInterrupt (eventCheck s)
    s.Running ∧ s.ctl.table = .main ∧ (eventCheck s).fault = none ∧ a.ctl.halted = false ∧
    decodeOp .main a.ctl.idx (a.byteAt a.regs.pc) (a.byteAt (a.regs.pc + 1#16)) (a.byteAt (a.regs.pc + 2#16)) = (.nop, 1) ∧
    exec .nop (fetched 1 true a) = .next (after .nop (fetched 1 true a)) ∧ (after .nop (fetched 1 true a)).ctl.table = .main :=
  ⟨⟨rfl, rfl, rfl⟩, rfl, by decide, by decide, by decide, rfl, by decide⟩
/-- RLC B: a prefix byte and the opcode of its table. -/
theorem witness_StepRunsDecodedInstruction_prefix :
    let s := small.pokeByte 0#16 0xCB#8
    let a := acceptInterrupt (eventCheck s)
    let t := after .prefixCb (fetched 1 true a)
    s.Running ∧ (eventCheck s).fault = none ∧ a.ctl.halted = false ∧
    decodeOp .main a.ctl.idx (a.byteAt a.regs.pc) (a.byteAt (a.regs.pc + 1#16)) (a.byteAt (a.regs.pc + 2#16)) = (.prefixCb, 1) ∧
    exec .prefixCb (fetched 1 true a) = .next t ∧ t.ctl.table ≠ .main ∧
    decodeOp t.ctl.table t.ctl.idx (t.byteAt t.regs.pc) (t.byteAt (t.regs.pc + 1#16)) (t.byteAt (t.regs.pc + 2#16)) = (.rlcR .b, 1) ∧
    exec (.rlcR .b) (fetched 1 true t) = .next (after (.rlcR .b) (fetched 1 true t)) :=
  ⟨⟨rfl, rfl, rfl⟩, by decide, by decide, by decide, rfl, by decide, by decide, rfl⟩
theorem witness_StepRunsDecodedInstruction_halted :
    let s := setHalted true small
    s.Running ∧ (eventCheck s).fault = none ∧ (acceptInterrupt (eventCheck s)).ctl.halted = true :=
  ⟨⟨rfl, rfl, rfl⟩, by decide, by decide⟩

/-- A machine whose event queue is full and whose first entry is due. -/
def crowded : State := small.setEvents (⟨.frameIntStart, 0⟩ :: List.replicate 15 ⟨.asicReady, 49152⟩)

theorem witness_StepAnswersOrStops :
    (small.fault = none ∧ (small.mapClock fun k => { k with frameEnd := true }).clock.frameEnd = true) ∧
    (small.mapSig fun g => { g with paused := true }).sig.paused = true ∧ (small.raise .queueExhausted).fault = some .queueExhausted ∧
    (crowded.fault = none ∧ crowded.clock.frameEnd = false ∧ crowded.sig.paused = false ∧ (eventCheck crowded).fault ≠ none) := by decide

/-! ### Witnesses: encodings, invariants, memory and events -/

theorem witness_DecodeEncodeRoundTrip :
    (WellFormed (.bitAtIx 0xFF#8 7#3) = true ∧ (Instr.bitAtIx 0xFF#8 7#3).chase = none) ∧
    WellFormed .prefixDdcb = true ∧ Instr.prefixDdcb.chase ≠ none := by decide
theorem witness_IndexModeLeavesOtherOpcodes :
    indexAffects 0x00#8 = false ∧ 0x00#8 ≠ 0xED#8 ∧ indexAffects 0x21#8 = true := by decide

/-- A machine held by the host at a frame boundary. -/
def held : State := small.mapSig fun g => { g with paused := true }

theorem witness_InvariantKept : held.Inv ∧ step held = .next (frameBoundary held) :=
  ⟨⟨by decide, ⟨by decide, by decide⟩, ⟨by decide, by decide, by decide⟩,
    ⟨by decide, by decide, by decide, by decide, by decide, by decide, trivial⟩, by decide, by decide⟩, rfl⟩
theorem witness_TimeIsMonotone : ClockOk held.clock ∧ step held = .next (frameBoundary held) :=
  ⟨⟨by decide, by decide, by decide⟩, rfl⟩

/-- A machine on the first visible line with the line-cycle counter at a place. -/
def onLine (n : Nat) : State := small.mapClock fun k => { k with lineCycle := n, line := 68, maybeContended := true }

theorem witness_AccessCharges :
    let hit (s : State) := s.clock.maybeContended = true ∧ 64 ≤ s.clock.lineCycle + 4 ∧ s.clock.lineCycle + 4 < 320 ∧ pageOf 0xFFFF#16 s < 32
    hit (onLine 60) ∧ hit (onLine 315) ∧ ¬hit (onLine 59) ∧ ¬hit (onLine 316) ∧
    0xF8 ≤ (loByte 0x00F8#16).toNat ∧ (loByte 0x00F7#16).toNat < 0xF8 := by decide
/-- What the host does at a boundary is free; a frame that has not ended keeps its scanlines, one that has starts again. -/
theorem witness_StepAnswersOrStops_boundary :
    let ended := small.mapClock fun k => { k with frameEnd := true, line := 311 }
    (closeFrame ended).clock.line = 0 ∧ closeFrame small = small ∧ (fdcFrameTick (closeFrame ended)).fault = none := by decide
theorem witness_WordsInMemory :
    Memory.wf small.mem = true ∧ writable 0xFFFF#16 small = true ∧ writable (0xFFFF#16 + 1#16) small = true ∧
    writable (small.regs.sp - 2#16) small = true ∧ writable (small.regs.sp - 1#16) small = true := by decide
theorem witness_PortAccessFrame :
    (∀ p ∈ [0x00DF#16, 0x00E8#16], ¬(0xE0 ≤ (loByte p).toNat ∧ (loByte p).toNat ≤ 0xE7)) ∧
    ∀ p ∈ [0x00E0#16, 0x00E7#16], 0xE0 ≤ (loByte p).toNat ∧ (loByte p).toNat ≤ 0xE7 := by simp [loByte]
theorem witness_EventQueueOperations : crowded.events.length = 16 ∧ (crowded.setEvents (crowded.events.drop 1)).events.length < 16 := by decide
theorem witness_EventHandlers :
    let s := crowded.setEvents (crowded.events.drop 1)
    s.fault = none ∧ s.events.length = 15 := by decide
theorem witness_DueEventsAreDrained : QueueOk small.events ∧ (checkEvents 49152 0 small).fault = none ∧ (checkEvents 0 0 small).fault = none :=
  ⟨⟨by decide, by decide⟩, by decide +kernel, by decide⟩
/-- 99 and 0 are packed decimal bytes' numbers. -/
theorem witness_InstructionFlags : 99 < 100 ∧ 0 < 100 := by decide
/-- DAA after an addition and after a subtraction, on a byte that is no packed decimal. -/
theorem witness_InstructionFlags_daa :
    (0xFD#8).getLsbD 1 = false ∧ (0x02#8).getLsbD 1 = true ∧ daaResult 0xFA#8 0xFD#8 = (0x60#8, 0x35#8) := by decide
theorem witness_SpecialStateWriters :
    let s := setR .b 1#8 (setR .a 1#8 small)
    (exec .ei s = .next (after .ei s) ∧ exec .im1 s = .next (after .im1 s) ∧ exec .ldIA s = .next (after .ldIA s) ∧
      exec .ldRA s = .next (after .ldRA s) ∧ exec .exAfAf s = .next (after .exAfAf s) ∧ exec .exx s = .next (after .exx s) ∧
      exec .halt s = .next (after .halt s) ∧ exec .prefixDd s = .next (after .prefixDd s)) ∧
    (after .ei s).ctl.iff1 ≠ s.ctl.iff1 ∧ (after .im1 s).ctl.im ≠ s.ctl.im ∧ (after .ldIA s).regs.i ≠ s.regs.i ∧
    (after .ldRA s).regs.r ≠ s.regs.r ∧ (after .exAfAf s).regs.a' ≠ s.regs.a' ∧ (after .exx s).regs.b' ≠ s.regs.b' ∧
    (after .halt s).ctl.halted ≠ s.ctl.halted ∧ (after .prefixDd s).ctl.idxNext ≠ s.ctl.idxNext :=
  ⟨⟨rfl, rfl, rfl, rfl, rfl, rfl, rfl, rfl⟩, by decide⟩
theorem witness_ReadOnlyMemoryIsKept :
    let s := small.mapPaging fun p => { p with readOnly := [⟨0x8000, 0x4000⟩] }
    Memory.wf s.mem = true ∧ isPortInstr (.ldAtHlN 0x34#8) = false ∧ exec (.ldAtHlN 0x34#8) s = .next (after (.ldAtHlN 0x34#8) s) ∧
    writable (getHl s) s = false ∧ (Instr.ldAtHlN 0x34#8).space = .cpu :=
  ⟨by decide, by decide, rfl, by decide, by decide⟩

end Sys2Proof.Tests
end

section
/-! Memory and time (20_memory.md): what one access costs. -/

namespace Sys2Proof.Proofs.Memory
open Sys2Proof Sys2Proof.Machine

/-- Rounding up answers a multiple, and moves by less than the step (00_scope.md R12). -/
theorem roundUp_spec (x : Nat) {n : Nat} (hn : 0 < n) :
    roundUp x n % n = 0 ∧ x ≤ roundUp x n ∧ roundUp x n < x + n := by
  have hdiv : roundUp x n + (x + (n - 1)) % n = x + (n - 1) := Nat.div_add_mod' _ _
  have hmod : (x + (n - 1)) % n < n := Nat.mod_lt _ hn
  exact ⟨Nat.mul_mod_left _ _, by omega, by omega⟩

/-- The test of contention (20_memory.md R204) at the defaults of R10: a visible cycle of the line and a page of main memory. -/
theorem contended_iff (addr : Word) (lc : Nat) (s : State) :
    contended addr lc s = true ↔ s.clock.maybeContended = true ∧ 64 ≤ lc ∧ lc < 320 ∧ pageOf addr s < 32 := by
  simp only [contended, Bool.and_eq_true, decide_eq_true_eq, and_assoc]
  rfl

theorem chargedCycle_of_contended {addr : Word} {s : State} (h : contended addr (s.clock.lineCycle + 4) s = true) :
    chargedCycle addr s = roundUp (s.clock.lineCycle + 4) 8 := if_pos h

theorem chargedCycle_of_not_contended {addr : Word} {s : State} (h : ¬contended addr (s.clock.lineCycle + 4) s = true) :
    chargedCycle addr s = s.clock.lineCycle + 4 := if_neg h

/-- The ports whose access is rounded up (20_memory.md R232), at the default of R10. -/
theorem asicPortBase_le_iff (b : Byte) : Config.asicPortBase ≤ b ↔ 0xF8 ≤ b.toNat := Iff.rfl

theorem portChargedCycle_of_asic {port : Word} (s : State) (h : 0xF8 ≤ (loByte port).toNat) :
    portChargedCycle port s = roundUp (s.clock.lineCycle + 4) 8 :=
    if_pos ((asicPortBase_le_iff _).mpr h)

theorem portChargedCycle_of_not_asic {port : Word} (s : State) (h : (loByte port).toNat < 0xF8) :
    portChargedCycle port s = s.clock.lineCycle + 4 :=
    if_neg (mt (asicPortBase_le_iff _).mp (Nat.not_le.mpr h))

theorem memCharge_eq_of_chargedCycle {addr : Word} {s : State} {n : Nat} (h : chargedCycle addr s = n) :
    memCharge addr s = { s with clock := { s.clock with lineCycle := n } } := by
  subst h; rfl

theorem portCharge_eq_of_portChargedCycle {port : Word} {s : State} {n : Nat} (h : portChargedCycle port s = n) :
    portCharge port s = { s with clock := { s.clock with lineCycle := n } } := by
  subst h; rfl

/-- Settles O49: the charge is the nominal cost, and its rounding where the test on the raised counter holds. -/
theorem accessCharges : Obligations.AccessCharges := by
  unfold Obligations.AccessCharges
  intro s addr v lc up round hit
  have hround : round (roundUp lc 8) := roundUp_spec lc (by decide)
  have hcontended : contended addr lc s = true ↔ hit := contended_iff addr lc s
  refine ⟨?hit, ?miss, ?write, ?read, ?asic, ?belowAsic⟩
  case hit =>
    intro h
    exact ⟨_, hround, memCharge_eq_of_chargedCycle (chargedCycle_of_contended (hcontended.mpr h))⟩
  case miss =>
    intro h
    exact memCharge_eq_of_chargedCycle (chargedCycle_of_not_contended (mt hcontended.mp h))
  case write => rw [memWriteByte_clock, memReadByte_eq]; rfl
  case read => rw [memReadByte_eq]
  case asic =>
    intro h
    exact ⟨_, hround, portCharge_eq_of_portChargedCycle (portChargedCycle_of_asic s h)⟩
  case belowAsic =>
    intro h
    exact portCharge_eq_of_portChargedCycle (portChargedCycle_of_not_asic s h)

end Sys2Proof.Proofs.Memory
end

section
/-! Encoding (30_encoding.md): what the decoder answers is encoded by the bytes it has read. -/

namespace Sys2Proof.Proofs.Encoding
open Sys2Proof Sys2Proof.Machine

/-! ### The fields of an opcode byte (R302) and the codes in them (R306 to R309) -/

/-- An opcode byte is its fields `x`, `y`, `z`, and `y` is `p` and `q`. -/
theorem fields_spec (op : Byte) :
    op.toNat = 64 * fieldX op + 8 * fieldY op + fieldZ op ∧ fieldY op = 2 * fieldP op + fieldQ op ∧
      fieldX op < 4 ∧ fieldY op < 8 ∧ fieldZ op < 8 ∧ fieldQ op < 2 := by
  unfold fieldX fieldY fieldZ fieldP fieldQ
  omega

/-- The code of the register a code names; 6 names none. -/
theorem Reg8.toNat_code_ofCode : ∀ n < 8, n ≠ 6 → (Reg8.ofCode n).code.toNat = n := by decide

theorem RP.toNat_code_ofCode : ∀ n < 4, (RP.ofCode n).code.toNat = n := by decide

theorem RP2.toNat_code_ofCode : ∀ n < 4, (RP2.ofCode n).code.toNat = n := by decide

theorem RPX.toNat_code_ofCode : ∀ n < 4, (RPX.ofCode n).code.toNat = n := by decide

theorem Cond.toNat_code_ofCode : ∀ n < 8, (Cond.ofCode n).code.toNat = n := by decide

theorem RP.ofCode_eq_hl_iff : ∀ n < 4, RP.ofCode n = .hl ↔ n = 2 := by decide

theorem isHalf_ofCode_iff : ∀ n < 8, isHalf (.ofCode n) = true ↔ n = 4 ∨ n = 5 := by decide

/-! ### The value of a byte the encoder puts together from fields -/

/-- Appending bits is a shift and a sum. -/
theorem toNat_append_add {m n : Nat} (a : BitVec m) (b : BitVec n) : (a ++ b).toNat = 2 ^ n * a.toNat + b.toNat := by
  rw [BitVec.toNat_append, ← Nat.shiftLeft_add_eq_or_of_lt b.isLt, Nat.shiftLeft_eq, Nat.mul_comm]

@[simp] theorem toNat_xyz (x : BitVec 2) (y z : BitVec 3) : (x ++ y ++ z : Byte).toNat = 64 * x.toNat + 8 * y.toNat + z.toNat := by
  have h := toNat_append_add (x ++ y) z
  rw [toNat_append_add x y] at h
  omega

@[simp] theorem toNat_xpqz (x p : BitVec 2) (qz : BitVec 4) : (x ++ p ++ qz : Byte).toNat = 64 * x.toNat + 16 * p.toNat + qz.toNat := by
  have h := toNat_append_add (x ++ p) qz
  rw [toNat_append_add x p] at h
  omega

@[simp] theorem toNat_xy_z (xy : BitVec 5) (z : BitVec 3) : (xy ++ z : Byte).toNat = 8 * xy.toNat + z.toNat :=
  toNat_append_add xy z

@[simp] theorem toNat_nibbles (hi lo : BitVec 4) : (hi ++ lo : Byte).toNat = 16 * hi.toNat + lo.toNat :=
  toNat_append_add hi lo

/-! ### Opcode classes by their fields -/

/-- The opcodes an index mode affects (R312), by fields: those naming HL as a pair, those naming H, L or the byte at HL, and 0xCB. -/
theorem indexAffects_iff (op : Byte) :
    indexAffects op = true ↔
      fieldX op = 0 ∧ (fieldZ op = 1 ∧ (fieldQ op = 1 ∨ fieldP op = 2) ∨ (fieldZ op = 2 ∨ fieldZ op = 3) ∧ fieldP op = 2 ∨
        4 ≤ fieldZ op ∧ fieldZ op ≤ 6 ∧ 4 ≤ fieldY op ∧ fieldY op ≤ 6) ∨
      fieldX op = 1 ∧ ¬(fieldY op = 6 ∧ fieldZ op = 6) ∧ (4 ≤ fieldZ op ∧ fieldZ op ≤ 6 ∨ 4 ≤ fieldY op ∧ fieldY op ≤ 6) ∨
      fieldX op = 2 ∧ 4 ≤ fieldZ op ∧ fieldZ op ≤ 6 ∨
      fieldX op = 3 ∧ (fieldZ op = 1 ∧ (fieldY op = 4 ∨ fieldY op = 5 ∨ fieldY op = 7) ∨ fieldZ op = 3 ∧ (fieldY op = 1 ∨ fieldY op = 4) ∨
        fieldZ op = 5 ∧ fieldY op = 4) := by
  revert op; decide

/-- The ED sub-opcodes of no assigned row (R324), by fields. -/
theorem edUnassigned_iff (op : Byte) :
    edUnassigned op = true ↔ ¬(fieldX op = 1 ∨ fieldX op = 2 ∧ 4 ≤ fieldY op ∧ fieldZ op ≤ 3) := by
  revert op; decide

/-! ### Each table

One case for each row of a table. The row fixes fields of the opcode or names an operand by one, so the byte the encoder puts together has the
opcode's value: its constant fields are those of the row, and the code of an operand is the field that named it. -/

/-- `p`, an instruction and how many of the three bytes it takes, is well formed and encoded by those bytes behind `before`. -/
def Encodes (before : List Byte) (b0 b1 b2 : Byte) (p : Instr × Nat) : Prop :=
  WellFormed p.1 = true ∧ p.1.space = .cpu ∧ 1 ≤ p.2 ∧ p.2 ≤ 3 ∧ encode p.1 = before ++ [b0, b1, b2].take p.2

/-- Main table, `x = 0` (R320). -/
theorem decodeMain0_encodes {op : Byte} (hx : fieldX op = 0) (b1 b2 : Byte) : Encodes [] op b1 b2 (decodeMain0 op b1 b2) := by
  have hop := fields_spec op
  have hr := Reg8.toNat_code_ofCode (fieldY op)
  have hp := RP.toNat_code_ofCode (fieldP op)
  unfold decodeMain0
  dsimp only
  split
  any_goals split
  all_goals simp [Encodes, WellFormed, Instr.space, encode, ← BitVec.toNat_inj, hiByte_ofBytes, loByte_ofBytes]
  all_goals lia

/-- Main table, `x = 1` (R321). -/
theorem decodeMain1_encodes {op : Byte} (hx : fieldX op = 1) (b1 b2 : Byte) : Encodes [] op b1 b2 (decodeMain1 op) := by
  have hop := fields_spec op
  have hy := Reg8.toNat_code_ofCode (fieldY op)
  have hz := Reg8.toNat_code_ofCode (fieldZ op)
  unfold decodeMain1
  dsimp only
  split <;> split
  all_goals simp [Encodes, WellFormed, Instr.space, encode, ← BitVec.toNat_inj]
  all_goals lia

/-- Main table, `x = 2` (R321). -/
theorem decodeMain2_encodes {op : Byte} (hx : fieldX op = 2) (b1 b2 : Byte) : Encodes [] op b1 b2 (decodeMain2 op) := by
  have hop := fields_spec op
  have hr := Reg8.toNat_code_ofCode (fieldZ op)
  unfold decodeMain2 aluAtHl aluR
  split <;> split
  all_goals simp [Encodes, WellFormed, Instr.space, encode, ← BitVec.toNat_inj]
  all_goals lia

/-- Main table, `x = 3` (R322). -/
theorem decodeMain3_encodes {op : Byte} (hx : fieldX op = 3) (b1 b2 : Byte) : Encodes [] op b1 b2 (decodeMain3 op b1 b2) := by
  have hop := fields_spec op
  have hc := Cond.toNat_code_ofCode (fieldY op)
  have hp := RP2.toNat_code_ofCode (fieldP op)
  unfold decodeMain3 aluN
  dsimp only
  split
  any_goals split
  all_goals simp [Encodes, WellFormed, Instr.space, encode, ← BitVec.toNat_inj, hiByte_ofBytes, loByte_ofBytes]
  all_goals lia

/-- The main table with no index mode needs no prefix byte. -/
theorem decodeMain_encodes (op b1 b2 : Byte) : Encodes [] op b1 b2 (decodeMain op b1 b2) := by
  unfold decodeMain
  split
  case h_1 hx => exact decodeMain0_encodes hx b1 b2
  case h_2 hx => exact decodeMain1_encodes hx b1 b2
  case h_3 hx => exact decodeMain2_encodes hx b1 b2
  case h_4 h0 h1 h2 =>
    have hop := fields_spec op
    exact decodeMain3_encodes (by lia) b1 b2

/-- An opcode index mode IX affects (R312 (a), (b), (c), (e)) is encoded behind DD. The rows left to
`decodeMain` hold none of them. -/
theorem decodeMainIx_encodes_of_affected {op : Byte} (h : indexAffects op = true) (b1 b2 : Byte) :
    Encodes [0xDD#8] op b1 b2 (decodeMainIx op b1 b2) := by
  have hop := fields_spec op
  have hy := Reg8.toNat_code_ofCode (fieldY op)
  have hz := Reg8.toNat_code_ofCode (fieldZ op)
  rw [indexAffects_iff] at h
  unfold decodeMainIx
  dsimp only
  split
  case h_1 hx =>
    have hp := RPX.toNat_code_ofCode (fieldP op)
    split
    case h_15 => lia
    repeat' split
    case h_1.isFalse.isFalse => lia
    all_goals simp [Encodes, WellFormed, Instr.space, encode, ← BitVec.toNat_inj, hiByte_ofBytes, loByte_ofBytes]
    all_goals lia
  case h_2 hx =>
    have hhalfY := isHalf_ofCode_iff (fieldY op)
    have hhalfZ := isHalf_ofCode_iff (fieldZ op)
    repeat' split
    case isTrue.isTrue => lia
    case isFalse.isFalse.isFalse => lia
    all_goals simp [Encodes, WellFormed, Instr.space, encode, ← BitVec.toNat_inj]
    all_goals lia
  case h_3 hx =>
    unfold aluIxh aluIxl aluAtIx
    split
    case h_4 => lia
    all_goals split
    all_goals simp [Encodes, WellFormed, Instr.space, encode, ← BitVec.toNat_inj]
    all_goals lia
  case h_4 =>
    split
    case h_8 => lia
    all_goals simp [Encodes, WellFormed, Instr.space, encode, ← BitVec.toNat_inj]
    all_goals lia

/-- Index mode IX leaves every other opcode but 0xED as it is (R812): the rows of its own hold none of them. -/
theorem decodeMainIx_eq_decodeMain {op : Byte} (h : indexAffects op = false) (hed : op ≠ 0xED#8) (b1 b2 : Byte) :
    decodeMainIx op b1 b2 = decodeMain op b1 b2 := by
  have hop := fields_spec op
  rw [← Bool.not_eq_true, indexAffects_iff] at h
  rw [ne_eq, ← BitVec.toNat_inj] at hed
  unfold decodeMainIx
  dsimp only
  split
  case h_1 hx =>
    split
    case h_15 => rfl
    repeat' split
    case h_1.isFalse.isFalse => rfl
    all_goals lia
  case h_2 hx =>
    repeat' split
    case isTrue.isTrue => rfl
    case isFalse.isFalse.isFalse => rfl
    all_goals lia
  case h_3 hx =>
    split
    case h_4 => rfl
    all_goals lia
  case h_4 =>
    split
    case h_8 => rfl
    all_goals lia

/-- An opcode index mode IY affects (R312 (a), (b), (c), (e)) is encoded behind FD. The rows left to
`decodeMain` hold none of them. -/
theorem decodeMainIy_encodes_of_affected {op : Byte} (h : indexAffects op = true) (b1 b2 : Byte) :
    Encodes [0xFD#8] op b1 b2 (decodeMainIy op b1 b2) := by
  have hop := fields_spec op
  have hy := Reg8.toNat_code_ofCode (fieldY op)
  have hz := Reg8.toNat_code_ofCode (fieldZ op)
  rw [indexAffects_iff] at h
  unfold decodeMainIy
  dsimp only
  split
  case h_1 hx =>
    have hp := RPX.toNat_code_ofCode (fieldP op)
    split
    case h_15 => lia
    repeat' split
    case h_1.isFalse.isFalse => lia
    all_goals simp [Encodes, WellFormed, Instr.space, encode, ← BitVec.toNat_inj, hiByte_ofBytes, loByte_ofBytes]
    all_goals lia
  case h_2 hx =>
    have hhalfY := isHalf_ofCode_iff (fieldY op)
    have hhalfZ := isHalf_ofCode_iff (fieldZ op)
    repeat' split
    case isTrue.isTrue => lia
    case isFalse.isFalse.isFalse => lia
    all_goals simp [Encodes, WellFormed, Instr.space, encode, ← BitVec.toNat_inj]
    all_goals lia
  case h_3 hx =>
    unfold aluIyh aluIyl aluAtIy
    split
    case h_4 => lia
    all_goals split
    all_goals simp [Encodes, WellFormed, Instr.space, encode, ← BitVec.toNat_inj]
    all_goals lia
  case h_4 =>
    split
    case h_8 => lia
    all_goals simp [Encodes, WellFormed, Instr.space, encode, ← BitVec.toNat_inj]
    all_goals lia

/-- Index mode IY leaves every other opcode but 0xED as it is (R812): the rows of its own hold none of them. -/
theorem decodeMainIy_eq_decodeMain {op : Byte} (h : indexAffects op = false) (hed : op ≠ 0xED#8) (b1 b2 : Byte) :
    decodeMainIy op b1 b2 = decodeMain op b1 b2 := by
  have hop := fields_spec op
  rw [← Bool.not_eq_true, indexAffects_iff] at h
  rw [ne_eq, ← BitVec.toNat_inj] at hed
  unfold decodeMainIy
  dsimp only
  split
  case h_1 hx =>
    split
    case h_15 => rfl
    repeat' split
    case h_1.isFalse.isFalse => rfl
    all_goals lia
  case h_2 hx =>
    repeat' split
    case isTrue.isTrue => rfl
    case isFalse.isFalse.isFalse => rfl
    all_goals lia
  case h_3 hx =>
    split
    case h_4 => rfl
    all_goals lia
  case h_4 =>
    split
    case h_8 => rfl
    all_goals lia

/-- The CB table (R323). -/
theorem decodeCb_encodes (op b1 b2 : Byte) : Encodes [0xCB#8] op b1 b2 (decodeCb op) := by
  have hop := fields_spec op
  have hr := Reg8.toNat_code_ofCode (fieldZ op)
  unfold decodeCb
  dsimp only
  repeat' split
  all_goals simp [Encodes, WellFormed, Instr.space, encode, ← BitVec.toNat_inj]
  all_goals lia

/-- ED table, `x = 1` (R324). -/
theorem decodeEd1_encodes {op : Byte} (hx : fieldX op = 1) (b1 b2 : Byte) : Encodes [0xED#8] op b1 b2 (decodeEd1 op b1 b2) := by
  have hop := fields_spec op
  have hr := Reg8.toNat_code_ofCode (fieldY op)
  have hp := RP.toNat_code_ofCode (fieldP op)
  have hhl := RP.ofCode_eq_hl_iff (fieldP op)
  unfold decodeEd1
  dsimp only
  split
  any_goals split
  all_goals simp [Encodes, WellFormed, Instr.space, encode, ← BitVec.toNat_inj, hiByte_ofBytes, loByte_ofBytes]
  all_goals lia

/-- The block instructions of the ED table (R324). -/
theorem decodeEdBlock_encodes {op : Byte} (hx : fieldX op = 2) (hy : 4 ≤ fieldY op) (hz : fieldZ op ≤ 3) (b1 b2 : Byte) :
    Encodes [0xED#8] op b1 b2 (decodeEdBlock (fieldY op) (fieldZ op), 1) := by
  have hop := fields_spec op
  unfold decodeEdBlock
  split
  all_goals simp [Encodes, WellFormed, Instr.space, encode, ← BitVec.toNat_inj]
  all_goals lia

/-- The ED table, its unassigned sub-opcodes among it (R324). -/
theorem decodeEd_encodes (op b1 b2 : Byte) : Encodes [0xED#8] op b1 b2 (decodeEd op b1 b2) := by
  unfold decodeEd
  split
  case isTrue hx => exact decodeEd1_encodes hx b1 b2
  case isFalse hx =>
    split
    case isTrue hblock =>
      obtain ⟨hx, hy, hz⟩ := hblock
      exact decodeEdBlock_encodes hx hy hz b1 b2
    case isFalse hblock =>
      have hwf : WellFormed (.edNop op) = true := (edUnassigned_iff op).mpr (not_or.mpr ⟨hx, hblock⟩)
      exact ⟨hwf, rfl, le_rfl, Nat.le_of_ble_eq_true rfl, rfl⟩

/-- The CB table under index mode IX: the sub-opcode is the second of the bytes (R323). -/
theorem decodeDdcb_encodes (d op b2 : Byte) : Encodes [0xDD#8, 0xCB#8] d op b2 (decodeDdcb d op) := by
  have hop := fields_spec op
  have hr := Reg8.toNat_code_ofCode (fieldZ op)
  unfold decodeDdcb
  dsimp only
  repeat' split
  all_goals simp [Encodes, WellFormed, Instr.space, encode, ← BitVec.toNat_inj]
  all_goals lia

/-- The CB table under index mode IY (R323). -/
theorem decodeFdcb_encodes (d op b2 : Byte) : Encodes [0xFD#8, 0xCB#8] d op b2 (decodeFdcb d op) := by
  have hop := fields_spec op
  have hr := Reg8.toNat_code_ofCode (fieldZ op)
  unfold decodeFdcb
  dsimp only
  repeat' split
  all_goals simp [Encodes, WellFormed, Instr.space, encode, ← BitVec.toNat_inj]
  all_goals lia

/-- The ED byte behind either index prefix is one instruction, encoded behind DD (R312). -/
theorem decodeOp_ed_encodes {x : IndexMode} (hx : x ≠ .hl) (b1 b2 : Byte) :
    Encodes [0xDD#8] 0xED#8 b1 b2 (decodeOp .main x 0xED#8 b1 b2) := by
  cases x with
  | hl => contradiction
  | ix | iy => exact ⟨rfl, rfl, le_rfl, Nat.le_of_ble_eq_true rfl, rfl⟩

/-- A command byte is its command's code, then its flags (62_fdc.md R1112). -/
theorem decodeFdcCommand_encodes (side : Bool) (v : Byte) :
    WellFormed (decodeFdcCommand side v) = true ∧ (decodeFdcCommand side v).space = .fdcCommand side ∧
      encode (decodeFdcCommand side v) = [v] := by
  have hv : v.toNat < 256 := v.isLt
  unfold decodeFdcCommand
  dsimp only
  split
  all_goals simp [WellFormed, Instr.space, encode, ← BitVec.toNat_inj]
  all_goals lia

/-- Under index mode IX the prefix byte stands before the opcodes it affects, and before 0xED. -/
theorem decodeMainIx_encodes (op b1 b2 : Byte) :
    Encodes (if indexAffects op = true ∨ op = 0xED#8 then [0xDD#8] else []) op b1 b2 (decodeMainIx op b1 b2) := by
  split
  case isTrue h =>
    obtain haffected | rfl := h
    · exact decodeMainIx_encodes_of_affected haffected b1 b2
    · exact decodeOp_ed_encodes (x := .ix) nofun b1 b2
  case isFalse h =>
    obtain ⟨haffected, hed⟩ := not_or.mp h
    rw [decodeMainIx_eq_decodeMain (Bool.eq_false_iff.mpr haffected) hed]
    exact decodeMain_encodes op b1 b2

/-- Under index mode IY likewise, but the ED byte there is the instruction of index mode IX. -/
theorem decodeMainIy_encodes (op b1 b2 : Byte) :
    Encodes (if op = 0xED#8 then [0xDD#8] else if indexAffects op = true then [0xFD#8] else []) op b1 b2 (decodeMainIy op b1 b2) := by
  split
  case isTrue hed =>
    subst hed
    exact decodeOp_ed_encodes (x := .iy) nofun b1 b2
  case isFalse hed =>
    split
    case isTrue haffected => exact decodeMainIy_encodes_of_affected haffected b1 b2
    case isFalse haffected =>
      rw [decodeMainIy_eq_decodeMain (Bool.eq_false_iff.mpr haffected) hed]
      exact decodeMain_encodes op b1 b2

/-- Settles O44, table by table. -/
theorem decodedBytesAreEncoded : Obligations.DecodedBytesAreEncoded := by
  unfold Obligations.DecodedBytesAreEncoded
  refine ⟨fun t x b0 b1 b2 => ?_, decodeFdcCommand_encodes⟩
  match t, x with
  | .main, .hl => exact decodeMain_encodes b0 b1 b2
  | .main, .ix => exact decodeMainIx_encodes b0 b1 b2
  | .main, .iy => exact decodeMainIy_encodes b0 b1 b2
  | .cb, _ => exact decodeCb_encodes b0 b1 b2
  | .ed, _ => exact decodeEd_encodes b0 b1 b2
  | .ddcb, _ => exact decodeDdcb_encodes b0 b1 b2
  | .fdcb, _ => exact decodeFdcb_encodes b0 b1 b2

end Sys2Proof.Proofs.Encoding
end

section
/-! Flags (10_state.md R110): the bits of F, and the 8-bit helpers (43_alu8.md, 46_rotate_shift_bit.md) on integers. -/

namespace Sys2Proof.Proofs.Flags
open Sys2Proof Sys2Proof.Machine

/-! ### The bits of a byte -/

theorem getLsbD_seven_iff (v : Byte) : v.getLsbD 7 = true ↔ 128 ≤ v.toNat := by
  rw [← BitVec.msb_eq_getLsbD_last v, BitVec.msb_eq_decide, decide_eq_true_eq]

theorem getLsbD_seven_eq_iff (v u : Byte) : v.getLsbD 7 = u.getLsbD 7 ↔ (128 ≤ v.toNat ↔ 128 ≤ u.toNat) := by
  rw [Bool.eq_iff_iff, getLsbD_seven_iff, getLsbD_seven_iff]

theorem getLsbD_zero_iff (v : Byte) : v.getLsbD 0 = true ↔ v.toNat % 2 = 1 := by
  rw [← BitVec.testBit_toNat, Nat.testBit_zero, decide_eq_true_eq]

theorem toNat_getLsbD_seven (v : Byte) : (v.getLsbD 7).toNat = v.toNat / 128 := by
  have := v.isLt
  rw [← BitVec.testBit_toNat, Nat.toNat_testBit]
  omega

theorem toNat_getLsbD_zero (v : Byte) : (v.getLsbD 0).toNat = v.toNat % 2 := by
  rw [← BitVec.testBit_toNat, Nat.toNat_testBit]
  omega

@[simp] theorem getElem_bit (b : Bool) (mask : Byte) (i : Nat) (hi : i < 8) : (bit b mask)[i] = (b && mask[i]) := by
  cases b <;> simp [bit]

/-! ### The layout of F (R110) -/

section
variable (s z y h x pv n c : Bool)

@[simp] theorem getElem_packF_s : (packF s z y h x pv n c)[7] = s := by simp [packF]
@[simp] theorem getElem_packF_z : (packF s z y h x pv n c)[6] = z := by simp [packF]
@[simp] theorem getElem_packF_y : (packF s z y h x pv n c)[5] = y := by simp [packF]
@[simp] theorem getElem_packF_h : (packF s z y h x pv n c)[4] = h := by simp [packF]
@[simp] theorem getElem_packF_x : (packF s z y h x pv n c)[3] = x := by simp [packF]
@[simp] theorem getElem_packF_pv : (packF s z y h x pv n c)[2] = pv := by simp [packF]
@[simp] theorem getElem_packF_n : (packF s z y h x pv n c)[1] = n := by simp [packF]
@[simp] theorem getElem_packF_c : (packF s z y h x pv n c)[0] = c := by simp [packF]

end

/-- F as most instructions leave it: S, Z, Y and X from the result, the other four bits given. -/
theorem packF_of_result (res : Byte) (h pv n c : Bool) :
    let f := packF (res.getLsbD 7) (res == 0) (res.getLsbD 5) h (res.getLsbD 3) pv n c
    f.getLsbD 7 = res.getLsbD 7 ∧ (f.getLsbD 6 = true ↔ res = 0#8) ∧ f.getLsbD 5 = res.getLsbD 5 ∧ f.getLsbD 4 = h ∧
      f.getLsbD 3 = res.getLsbD 3 ∧ f.getLsbD 2 = pv ∧ f.getLsbD 1 = n ∧ f.getLsbD 0 = c := by
  simp

/-- The parity of 00_scope.md R12 counts the 1 bits. -/
theorem parity_iff (v : Byte) : parity v = true ↔ ((List.range 8).countP fun k => v.getLsbD k) % 2 = 0 := by
  simp only [parity, List.range, List.range.loop, List.countP_cons, List.countP_nil]
  generalize v.getLsbD 0 = b0, v.getLsbD 1 = b1, v.getLsbD 2 = b2, v.getLsbD 3 = b3, v.getLsbD 4 = b4, v.getLsbD 5 = b5,
    v.getLsbD 6 = b6, v.getLsbD 7 = b7
  revert b0 b1 b2 b3 b4 b5 b6 b7
  decide

/-- F after a logic operation, a rotate or a shift: PV is the parity of the result, and N is cleared. -/
theorem packF_of_parity (res : Byte) (h c : Bool) :
    let f := packF (res.getLsbD 7) (res == 0) (res.getLsbD 5) h (res.getLsbD 3) (parity res) false c
    f.getLsbD 7 = res.getLsbD 7 ∧ (f.getLsbD 6 = true ↔ res = 0#8) ∧ f.getLsbD 5 = res.getLsbD 5 ∧ f.getLsbD 4 = h ∧
      f.getLsbD 3 = res.getLsbD 3 ∧
      (f.getLsbD 2 = true ↔ ((List.range 8).countP fun k => res.getLsbD k) % 2 = 0) ∧ f.getLsbD 1 = false ∧ f.getLsbD 0 = c := by
  obtain ⟨hs, hz, hy, hh, hx, hpv, hn, hc⟩ := packF_of_result res h (parity res) false c
  exact ⟨hs, hz, hy, hh, hx, (Bool.eq_iff_iff.mp hpv).trans (parity_iff res), hn, hc⟩

/-! ### Addition and subtraction (R551, R552) -/

theorem toNat_add8 (a b : Byte) (c : Bool) : (add8 a b c).1.toNat = (a.toNat + b.toNat + c.toNat) % 256 := rfl

theorem toNat_sub8 (a b : Byte) (c : Bool) : ((sub8 a b c).1.toNat : Int) = ((a.toNat : Int) - b.toNat - c.toNat) % 256 := by
  simp only [sub8, BitVec.toNat_ofInt]
  omega

/-- A sum leaves the signed range exactly when its operands share a sign that it does not have. -/
theorem signed_overflow_add_iff {a b r : Byte} {c : Bool} (hr : r.toNat = (a.toNat + b.toNat + c.toNat) % 256) :
    (a.toInt + b.toInt + c.toNat < -128 ∨ 127 < a.toInt + b.toInt + c.toNat) ↔
      (a.getLsbD 7 = b.getLsbD 7 ∧ r.getLsbD 7 ≠ a.getLsbD 7) := by
  have := a.isLt
  have := b.isLt
  have := c.toNat_le
  simp only [BitVec.toInt_eq_toNat_cond, ne_eq, getLsbD_seven_eq_iff]
  omega

/-- A difference leaves the signed range exactly when its operands differ in sign and it has not the sign of the first. -/
theorem signed_overflow_sub_iff {a b r : Byte} {c : Bool} (hr : (r.toNat : Int) = ((a.toNat : Int) - b.toNat - c.toNat) % 256) :
    (a.toInt - b.toInt - c.toNat < -128 ∨ 127 < a.toInt - b.toInt - c.toNat) ↔
      (a.getLsbD 7 ≠ b.getLsbD 7 ∧ r.getLsbD 7 ≠ a.getLsbD 7) := by
  have := a.isLt
  have := b.isLt
  have := c.toNat_le
  simp only [BitVec.toInt_eq_toNat_cond, ne_eq, getLsbD_seven_eq_iff]
  omega

theorem add8_pv_iff (a b : Byte) (c : Bool) : (add8 a b c).2.getLsbD 2 = true ↔
    (a.getLsbD 7 = b.getLsbD 7 ∧ (add8 a b c).1.getLsbD 7 ≠ a.getLsbD 7) := by
  simp [add8]

theorem sub8_pv_iff (a b : Byte) (c : Bool) : (sub8 a b c).2.getLsbD 2 = true ↔
    (a.getLsbD 7 ≠ b.getLsbD 7 ∧ (sub8 a b c).1.getLsbD 7 ≠ a.getLsbD 7) := by
  simp [sub8]

theorem add8_h_iff (a b : Byte) (c : Bool) :
    (add8 a b c).2.getLsbD 4 = true ↔ 15 < a.toNat % 16 + b.toNat % 16 + c.toNat := by
  simp [add8]

theorem sub8_h_iff (a b : Byte) (c : Bool) :
    (sub8 a b c).2.getLsbD 4 = true ↔ a.toNat % 16 < b.toNat % 16 + c.toNat := by
  simp [sub8]
  omega

theorem add8_c_iff (a b : Byte) (c : Bool) : (add8 a b c).2.getLsbD 0 = true ↔ 255 < a.toNat + b.toNat + c.toNat := by
  simp [add8]

theorem sub8_c_iff (a b : Byte) (c : Bool) : (sub8 a b c).2.getLsbD 0 = true ↔ a.toNat < b.toNat + c.toNat := by
  simp [sub8]
  omega

/-! ### Rotates and shifts (R665) -/

theorem getElem_signMask : ∀ i, (hi : i < 8) → (0x80#8)[i] = decide (i = 7) := by decide

theorem and_signMask_eq_bit (v : Byte) : v &&& 0x80#8 = bit (v.getLsbD 7) 0x80#8 := by
  ext i hi
  obtain rfl | hne := eq_or_ne i 7
  · simp
  · simp [getElem_signMask, hne]

theorem toNat_shiftLeft_one (v : Byte) : (v <<< 1).toNat = 2 * v.toNat % 256 := by
  rw [BitVec.toNat_shiftLeft, Nat.shiftLeft_eq, Nat.mul_comm]

theorem toNat_shiftRight_one (v : Byte) : (v >>> 1).toNat = v.toNat / 2 := by
  rw [BitVec.toNat_ushiftRight, Nat.shiftRight_eq_div_pow]

/-- The bit that comes in from the right meets a 0, so that joining it is adding it. -/
theorem toNat_shiftLeft_or_bit (v : Byte) (b : Bool) : (v <<< 1 ||| bit b 0x01#8).toNat = (2 * v.toNat + b.toNat) % 256 := by
  have hdisjoint : v <<< 1 &&& bit b 0x01#8 = 0#8 := by
    ext i hi
    obtain rfl | hne := eq_or_ne i 0
    · simp
    · simp [hne]
  have hbit : (bit b 0x01#8).toNat = b.toNat := by cases b <;> rfl
  rw [← BitVec.add_eq_or_of_and_eq_zero _ _ hdisjoint, BitVec.toNat_add, toNat_shiftLeft_one, hbit, Nat.mod_add_mod]

/-- The bit that comes in from the left meets a 0, and counts 128. -/
theorem toNat_shiftRight_or_bit (v : Byte) (b : Bool) : (v >>> 1 ||| bit b 0x80#8).toNat = v.toNat / 2 + 128 * b.toNat := by
  have hdisjoint : v >>> 1 &&& bit b 0x80#8 = 0#8 := by
    ext i hi
    obtain rfl | hne := eq_or_ne i 7
    · simp
    · simp [getElem_signMask, hne]
  have hbit : (bit b 0x80#8).toNat = 128 * b.toNat := by cases b <;> rfl
  have hlt : v.toNat / 2 + 128 * b.toNat < 256 := by
    have := v.isLt
    have := b.toNat_le
    omega
  rw [← BitVec.add_eq_or_of_and_eq_zero _ _ hdisjoint, BitVec.toNat_add, toNat_shiftRight_one, hbit, Nat.mod_eq_of_lt hlt]

theorem toNat_shiftRight_or_sign (v : Byte) : (v >>> 1 ||| (v &&& 0x80#8)).toNat = v.toNat / 2 + 128 * (v.toNat / 128) := by
  rw [and_signMask_eq_bit, toNat_shiftRight_or_bit, toNat_getLsbD_seven]

/-- Settles O56: the flags by `packF_of_result`, the overflow by the signs, the rotates by the bit that comes in. -/
theorem flags8 : Obligations.Flags8 := by
  unfold Obligations.Flags8
  refine ⟨fun a b c => ?add, fun a b c => ?sub, fun v h => ?logic, fun op v c => ⟨?rotFlags, ?rotate⟩⟩
  case add =>
    obtain ⟨hs, hz, hy, -, hx, -, hn, -⟩ := packF_of_result (add8 a b c).1 _ _ _ _
    exact ⟨toNat_add8 a b c, hs, hz, hy, add8_h_iff a b c, hx,
      (add8_pv_iff a b c).trans (signed_overflow_add_iff (toNat_add8 a b c)).symm, add8_pv_iff a b c, hn, add8_c_iff a b c⟩
  case sub =>
    obtain ⟨hs, hz, hy, -, hx, -, hn, -⟩ := packF_of_result (sub8 a b c).1 _ _ _ _
    exact ⟨toNat_sub8 a b c, hs, hz, hy, sub8_h_iff a b c, hx,
      (sub8_pv_iff a b c).trans (signed_overflow_sub_iff (toNat_sub8 a b c)).symm, sub8_pv_iff a b c, hn, sub8_c_iff a b c⟩
  case logic => exact packF_of_parity v h false
  case rotFlags => exact packF_of_parity _ false _
  case rotate =>
    cases op with
    | rlc => exact ⟨toNat_getLsbD_seven v ▸ toNat_shiftLeft_or_bit v _, getLsbD_seven_iff v⟩
    | rl => exact ⟨toNat_shiftLeft_or_bit v c, getLsbD_seven_iff v⟩
    | sla => exact ⟨toNat_shiftLeft_one v, getLsbD_seven_iff v⟩
    | sll => exact ⟨toNat_shiftLeft_or_bit v true, getLsbD_seven_iff v⟩
    | rrc => exact ⟨toNat_getLsbD_zero v ▸ toNat_shiftRight_or_bit v _, getLsbD_zero_iff v⟩
    | rr => exact ⟨toNat_shiftRight_or_bit v c, getLsbD_zero_iff v⟩
    | sra => exact ⟨toNat_shiftRight_or_sign v, getLsbD_zero_iff v⟩
    | srl => exact ⟨toNat_shiftRight_one v, getLsbD_zero_iff v⟩

end Sys2Proof.Proofs.Flags
end

section
/-! Flags of the single instructions (40_load8.md to 48_io.md): each from the helpers or bit by bit, and DAA on packed decimal bytes. -/

namespace Sys2Proof.Proofs.InstructionFlags
open Sys2Proof Sys2Proof.Machine Sys2Proof.Proofs.Flags

/-- Two bytes are equal when their eight bits are, S of R110 first. -/
theorem byte_eq_iff (v u : Byte) : v = u ↔
    v[7] = u[7] ∧ v[6] = u[6] ∧ v[5] = u[5] ∧ v[4] = u[4] ∧ v[3] = u[3] ∧ v[2] = u[2] ∧ v[1] = u[1] ∧ v[0] = u[0] := by
  constructor
  · rintro rfl
    simp
  · intro h
    ext i hi
    interval_cases i <;> simp [h]

/-! ### Flags from the helpers and from the old F (R561, R562, R566, R771, R418, R603, R604, R660) -/

theorem add8_fst (a b : Byte) : (add8 a b false).1 = a + b :=
  BitVec.eq_of_toNat_eq (by simp [toNat_add8])

theorem sub8_fst (a b : Byte) : (sub8 a b false).1 = a - b := by
  have h := toNat_sub8 a b false
  rw [Bool.toNat_false] at h
  apply BitVec.eq_of_toNat_eq
  rw [BitVec.toNat_sub]
  omega

/-- F of an operation that keeps the carry: the other seven bits are those of the helper. -/
theorem packF_keeping_carry (s z y h x pv n c : Bool) (f : Byte) :
    (packF s z y h x pv n c &&& 0xFE#8) ||| (f &&& 0x01#8) = packF s z y h x pv n (fC f) := by
  simp [byte_eq_iff, fC]

theorem cpFlags_masks (a b : Byte) :
    cpFlags a b &&& 0xD7#8 = (sub8 a b false).2 &&& 0xD7#8 ∧ cpFlags a b &&& 0x28#8 = b &&& 0x28#8 := by
  simp [byte_eq_iff, cpFlags]

/-- INC is the addition of 1 (R562): a nibble overflows from 15, the signed range from 127. -/
theorem incFlags_eq (v f : Byte) :
    incFlags v (v + 1#8) f = ((add8 v 1#8 false).2 &&& 0xFE#8) ||| (f &&& 0x01#8) := by
  have hh : decide (v.toNat % 16 = 15) = decide (v.toNat % 16 + (1#8).toNat % 16 + false.toNat > 15) := by
    simp only [decide_eq_decide, BitVec.toNat_ofNat, Bool.toNat_false]
    omega
  have hpv : (v == 0x7F#8) = (v.getLsbD 7 == (1#8).getLsbD 7 && (v + 1#8).getLsbD 7 != v.getLsbD 7) := by
    rw [Bool.eq_iff_iff]
    simp only [beq_iff_eq, Bool.and_eq_true, bne_iff_ne, ne_eq, getLsbD_seven_eq_iff, ← BitVec.toNat_inj,
      BitVec.toNat_add, BitVec.toNat_ofNat]
    omega
  rw [incFlags, hh, hpv, ← packF_keeping_carry, ← add8_fst]
  rfl

/-- DEC is the subtraction of 1 (R566): a nibble borrows from 0, the signed range ends at -128. -/
theorem decFlags_eq (v f : Byte) :
    decFlags v (v - 1#8) f = ((sub8 v 1#8 false).2 &&& 0xFE#8) ||| (f &&& 0x01#8) := by
  have hh : decide (v.toNat % 16 = 0) = decide (((v.toNat % 16 : Nat) : Int) - ((1#8).toNat % 16 : Nat) - false.toNat < 0) := by
    simp only [decide_eq_decide, BitVec.toNat_ofNat, Bool.toNat_false]
    omega
  have hpv : (v == 0x80#8) = (v.getLsbD 7 != (1#8).getLsbD 7 && (v - 1#8).getLsbD 7 != v.getLsbD 7) := by
    rw [Bool.eq_iff_iff]
    simp only [beq_iff_eq, Bool.and_eq_true, bne_iff_ne, ne_eq, getLsbD_seven_eq_iff, ← BitVec.toNat_inj,
      BitVec.toNat_sub, BitVec.toNat_ofNat]
    omega
  rw [decFlags, hh, hpv, ← packF_keeping_carry, ← sub8_fst]
  rfl

theorem valueFlags_eq (v f : Byte) : valueFlags v f = logic8 v false ||| (f &&& 0x01#8) := by
  simp [byte_eq_iff, valueFlags, logic8, fC]

theorem ldAIFlags_eq (v f : Byte) (iff2 : Bool) :
    ldAIFlags v iff2 f = (logic8 v false &&& 0xFB#8) ||| (if iff2 then 0x04#8 else 0#8) ||| (f &&& 0x01#8) := by
  cases iff2 <;> simp [byte_eq_iff, ldAIFlags, logic8, fC]

theorem ccfFlags_masked (f : Byte) :
    ccfFlags f &&& 0xD7#8 = (f &&& 0xC4#8) ||| (if f.getLsbD 0 then 0x10#8 else 0x01#8) := by
  cases h : f.getLsbD 0 <;> simp_all [byte_eq_iff, ccfFlags, fS, fZ, fPV, fC]

theorem scfFlags_masked (f : Byte) : scfFlags f &&& 0xD7#8 = (f &&& 0xC4#8) ||| 0x01#8 := by
  simp [byte_eq_iff, scfFlags, fS, fZ, fPV]

theorem accRotFlags_eq (a f : Byte) (c : Bool) :
    accRotFlags a c f = (f &&& 0xC4#8) ||| (a &&& 0x28#8) ||| (if c then 0x01#8 else 0#8) := by
  cases c <;> simp [byte_eq_iff, accRotFlags, fS, fZ, fPV]

/-! ### BIT and the block instructions (R680, R506, R510) -/

theorem bitFlags_spec (b : BitVec 3) (v yx f : Byte) :
    let g := bitFlags b v yx f
    g.getLsbD 6 = !v.getLsbD b.toNat ∧ g.getLsbD 2 = !v.getLsbD b.toNat ∧ (g.getLsbD 7 = true ↔ b = 7#3 ∧ v.getLsbD 7 = true) ∧
    g.getLsbD 4 = true ∧ g.getLsbD 1 = false ∧ g.getLsbD 0 = f.getLsbD 0 ∧ g &&& 0x28#8 = yx &&& 0x28#8 := by
  have hs : b = 7#3 ∧ v.getLsbD b.toNat = true ↔ b = 7#3 ∧ v.getLsbD 7 = true := and_congr_right (by rintro rfl; rfl)
  simpa [bitFlags, fC, byte_eq_iff] using hs

theorem blockLoadFlags_spec (k f : Byte) (bc : Word) :
    let g := blockLoadFlags k bc f
    g &&& 0xC1#8 = f &&& 0xC1#8 ∧ g.getLsbD 5 = k.getLsbD 1 ∧ g.getLsbD 4 = false ∧ g.getLsbD 3 = k.getLsbD 3 ∧
    (g.getLsbD 2 = true ↔ bc ≠ 0#16) ∧ g.getLsbD 1 = false := by
  simp [blockLoadFlags, fS, fZ, fC, byte_eq_iff]

theorem blockCompareFlags_spec (a t f : Byte) (bc : Word) :
    let g := blockCompareFlags a t bc f
    let half := a.toNat % 16 < t.toNat % 16
    let k := a - t - (if half then 1#8 else 0#8)
    g.getLsbD 7 = (a - t).getLsbD 7 ∧ (g.getLsbD 6 = true ↔ a = t) ∧ g.getLsbD 5 = k.getLsbD 1 ∧ (g.getLsbD 4 = true ↔ half) ∧
    g.getLsbD 3 = k.getLsbD 3 ∧ (g.getLsbD 2 = true ↔ bc ≠ 0#16) ∧ g.getLsbD 1 = true ∧ g.getLsbD 0 = f.getLsbD 0 := by
  have hz : a - t = 0#8 ↔ a = t := sub_eq_zero
  simp [blockCompareFlags, fC, bit, hz]

/-! ### DAA (R600) -/

/-- DAA corrects the low digit: it carried or borrowed, or it is no decimal digit. -/
abbrev DaaLow (a f : Byte) : Prop := f.getLsbD 4 = true ∨ 9 < a.toNat % 16

/-- DAA corrects the high digit: the byte carried or borrowed, or it is above 99 in packed decimal. -/
abbrev DaaHigh (a f : Byte) : Prop := f.getLsbD 0 = true ∨ 0x99 < a.toNat

/-- The number DAA adds to A, or subtracts from it. -/
def daaCorrection (a f : Byte) : Nat := (if DaaLow a f then 0x06 else 0) + (if DaaHigh a f then 0x60 else 0)

theorem daaCorrection_le (a f : Byte) : daaCorrection a f ≤ 0x66 := by
  unfold daaCorrection
  split <;> split <;> decide

theorem daaCorrection_eq_toNat (a f : Byte) :
    daaCorrection a f =
      (bit (fH f || decide (a.toNat % 16 > 9)) 0x06#8 + bit (fC f || decide (a.toNat > 0x99)) 0x60#8).toNat := by
  simp only [daaCorrection, bit, fH, fC, Bool.or_eq_true, decide_eq_true_eq, gt_iff_lt]
  split <;> split <;> rfl

theorem toNat_daaResult_of_add {f : Byte} (a : Byte) (hn : f.getLsbD 1 = false) :
    (daaResult a f).1.toNat = (a.toNat + daaCorrection a f) % 256 := by
  rw [daaCorrection_eq_toNat, ← BitVec.toNat_add]
  simp only [daaResult, fN, hn, Bool.false_eq_true, if_false]

theorem toNat_daaResult_of_sub {f : Byte} (a : Byte) (hn : f.getLsbD 1 = true) :
    (daaResult a f).1.toNat = (256 + a.toNat - daaCorrection a f) % 256 := by
  have hle := daaCorrection_le a f
  have hsub (u v : Byte) : (u - v).toNat = (256 + u.toNat - v.toNat) % 256 := by
    rw [BitVec.toNat_sub]
    omega
  rw [daaCorrection_eq_toNat, ← hsub]
  simp only [daaResult, fN, hn, if_true]

theorem daaResult_h_iff_of_add {f : Byte} (a : Byte) (hn : f.getLsbD 1 = false) :
    (daaResult a f).2.getLsbD 4 = true ↔ 9 < a.toNat % 16 := by
  rw [BitVec.getLsbD_eq_getElem (by decide)] at hn ⊢
  simp [daaResult, fN, hn]

theorem daaResult_h_iff_of_sub {f : Byte} (a : Byte) (hn : f.getLsbD 1 = true) :
    (daaResult a f).2.getLsbD 4 = true ↔ f.getLsbD 4 = true ∧ a.toNat % 16 < 6 := by
  rw [BitVec.getLsbD_eq_getElem (by decide)] at hn
  simp [daaResult, fN, fH, hn]

theorem daaResult_c_iff (a f : Byte) : (daaResult a f).2.getLsbD 0 = true ↔ DaaHigh a f := by
  simp [daaResult, DaaHigh, fC]

theorem daaResult_flags (a f : Byte) :
    let r := daaResult a f
    let g := r.2
    g.getLsbD 7 = r.1.getLsbD 7 ∧ (g.getLsbD 6 = true ↔ r.1 = 0#8) ∧ g.getLsbD 5 = r.1.getLsbD 5 ∧ g.getLsbD 3 = r.1.getLsbD 3 ∧
    (g.getLsbD 2 = true ↔ ((List.range 8).countP fun k => r.1.getLsbD k) % 2 = 0) ∧ g.getLsbD 1 = f.getLsbD 1 := by
  obtain ⟨hs, hz, hy, -, hx, hpv, hn, -⟩ := packF_of_result (daaResult a f).1 _ _ _ _
  exact ⟨hs, hz, hy, hx, (Bool.eq_iff_iff.mp hpv).trans (parity_iff _), hn⟩

/-! ### DAA on packed decimal bytes -/

/-- A number below 100 as a packed decimal byte: its tens in the high nibble, its units in the low one. -/
def packedDecimal (n : Nat) : Byte := .ofNat 8 (n / 10 * 16 + n % 10)

theorem toNat_packedDecimal {n : Nat} (hn : n < 100) : (packedDecimal n).toNat = n / 10 * 16 + n % 10 := by
  rw [packedDecimal, BitVec.toNat_ofNat]
  omega

theorem add8_n (a b : Byte) (c : Bool) : (add8 a b c).2.getLsbD 1 = false := by simp [add8]

theorem sub8_n (a b : Byte) (c : Bool) : (sub8 a b c).2.getLsbD 1 = true := by simp [sub8]

section
variable {x y : Nat} (hx : x < 100) (hy : y < 100) (c : Bool)
include hx hy

/-- The packed bytes add up past 0x99 exactly when the numbers add up past 99. -/
theorem packed_sum_gt_iff :
    0x99 < (packedDecimal x).toNat + (packedDecimal y).toNat + c.toNat ↔ 99 < x + y + c.toNat := by
  have := c.toNat_le
  rw [toNat_packedDecimal hx, toNat_packedDecimal hy]
  obtain htens | htens := Nat.lt_or_ge 9 (x / 10 + y / 10) <;> omega

/-- Packed decimal keeps the order. -/
theorem packed_lt_iff :
    (packedDecimal x).toNat < (packedDecimal y).toNat + c.toNat ↔ x < y + c.toNat := by
  have := c.toNat_le
  rw [toNat_packedDecimal hx, toNat_packedDecimal hy]
  obtain htens | htens := Nat.lt_or_ge (x / 10) (y / 10) <;> omega

theorem add8_packed_high_iff :
    DaaHigh (add8 (packedDecimal x) (packedDecimal y) c).1 (add8 (packedDecimal x) (packedDecimal y) c).2 ↔ 99 < x + y + c.toNat := by
  have := c.toNat_le
  have := toNat_packedDecimal hx
  have := toNat_packedDecimal hy
  rw [DaaHigh, add8_c_iff, toNat_add8, ← packed_sum_gt_iff hx hy]
  omega

theorem sub8_packed_high_iff :
    DaaHigh (sub8 (packedDecimal x) (packedDecimal y) c).1 (sub8 (packedDecimal x) (packedDecimal y) c).2 ↔ x < y + c.toNat := by
  have := toNat_packedDecimal hx
  have := toNat_sub8 (packedDecimal x) (packedDecimal y) c
  rw [DaaHigh, sub8_c_iff, ← packed_lt_iff hx hy]
  omega

theorem add8_packed_low_iff :
    DaaLow (add8 (packedDecimal x) (packedDecimal y) c).1 (add8 (packedDecimal x) (packedDecimal y) c).2 ↔ 9 < x % 10 + y % 10 + c.toNat := by
  have := c.toNat_le
  rw [DaaLow, add8_h_iff, toNat_add8, toNat_packedDecimal hx, toNat_packedDecimal hy]
  omega

theorem sub8_packed_low_iff :
    DaaLow (sub8 (packedDecimal x) (packedDecimal y) c).1 (sub8 (packedDecimal x) (packedDecimal y) c).2 ↔ x % 10 < y % 10 + c.toNat := by
  have := c.toNat_le
  have hdiff := toNat_sub8 (packedDecimal x) (packedDecimal y) c
  rw [toNat_packedDecimal hx, toNat_packedDecimal hy] at hdiff
  rw [DaaLow, sub8_h_iff, toNat_packedDecimal hx, toNat_packedDecimal hy]
  omega

/-- DAA corrects a sum of packed decimal bytes, with and without carry, to the packed sum modulo 100. -/
theorem daaResult_add8_packed :
    (daaResult (add8 (packedDecimal x) (packedDecimal y) c).1 (add8 (packedDecimal x) (packedDecimal y) c).2).1 =
      packedDecimal ((x + y + c.toNat) % 100) := by
  have := c.toNat_le
  have hlt : (x + y + c.toNat) % 100 < 100 := Nat.mod_lt _ (by decide)
  apply BitVec.eq_of_toNat_eq
  rw [toNat_daaResult_of_add _ (add8_n ..), daaCorrection]
  simp only [add8_packed_low_iff hx hy, add8_packed_high_iff hx hy]
  rw [toNat_add8, toNat_packedDecimal hx, toNat_packedDecimal hy, toNat_packedDecimal hlt]
  split <;> split <;> omega

/-- DAA corrects a difference of packed decimal bytes, with and without borrow, to the packed difference modulo 100. -/
theorem daaResult_sub8_packed :
    (daaResult (sub8 (packedDecimal x) (packedDecimal y) c).1 (sub8 (packedDecimal x) (packedDecimal y) c).2).1 =
      packedDecimal ((100 + x - y - c.toNat) % 100) := by
  have := c.toNat_le
  have hlt : (100 + x - y - c.toNat) % 100 < 100 := Nat.mod_lt _ (by decide)
  have hdiff := toNat_sub8 (packedDecimal x) (packedDecimal y) c
  rw [toNat_packedDecimal hx, toNat_packedDecimal hy] at hdiff
  apply BitVec.eq_of_toNat_eq
  rw [toNat_daaResult_of_sub _ (sub8_n ..), daaCorrection]
  simp only [sub8_packed_low_iff hx hy, sub8_packed_high_iff hx hy]
  rw [toNat_packedDecimal hlt]
  split <;> split <;> omega

end

/-- Settles O58: the flags bit by bit, INC and DEC as an addition and a subtraction of 1, and DAA digit by digit: it corrects a digit exactly
when the decimal sum or difference carries or borrows there. -/
theorem instructionFlags : Obligations.InstructionFlags := by
  unfold Obligations.InstructionFlags
  refine ⟨fun a v f => ?alu, fun v f => ?value, fun a f => ?single, bitFlags_spec, blockLoadFlags_spec, blockCompareFlags_spec,
    fun a f => ?daa, fun x hx y hy c => ?decimal⟩
  case alu => exact ⟨rfl, rfl, rfl, rfl, rfl, rfl, rfl, rfl, cpFlags_masks a v⟩
  case value => exact ⟨incFlags_eq v f, decFlags_eq v f, valueFlags_eq v f, ldAIFlags_eq v f⟩
  case single => exact ⟨rfl, ccfFlags_masked f, scfFlags_masked f, accRotFlags_eq a f⟩
  case daa =>
    obtain ⟨hs, hz, hy, hx, hpv, hn⟩ := daaResult_flags a f
    exact ⟨fun h => ⟨toNat_daaResult_of_add a h, daaResult_h_iff_of_add a h⟩,
      fun h => ⟨toNat_daaResult_of_sub a h, daaResult_h_iff_of_sub a h⟩,
      hs, hz, hy, hx, hpv, hn, daaResult_c_iff a f⟩
  case decimal =>
    exact ⟨daaResult_add8_packed hx hy c, (daaResult_c_iff ..).trans (add8_packed_high_iff hx hy c),
      daaResult_sub8_packed hx hy c, (daaResult_c_iff ..).trans (sub8_packed_high_iff hx hy c)⟩

end Sys2Proof.Proofs.InstructionFlags
end

section
/-! The step (60_exceptions.md): every instruction and so every step answers a next state, and where the fault state and the frame boundary
take its place. -/

namespace Sys2Proof.Proofs.StepAnswers
open Sys2Proof Sys2Proof.Machine

/-! ### The CPU's step, part by part (R900) -/

/-- No instruction stops the machine by itself (R950): each has a meaning, and the meaning is a next state. -/
theorem exec_answers (i : Instr) (s : State) : ∃ t, exec i s = .next t := by
  cases i
  all_goals exact ⟨_, rfl⟩

theorem runSubTable_answers (s : State) : ∃ t, runSubTable s = .next t := by
  obtain ⟨t, ht⟩ := exec_answers (fetchInstr s).1 (fetchInstr s).2
  simp only [runSubTable, ht]
  exact ⟨_, rfl⟩

theorem runInstr_answers (s : State) : ∃ t, runInstr s = .next t := by
  obtain ⟨t, ht⟩ := exec_answers (fetchInstr s).1 (fetchInstr s).2
  by_cases hmain : t.ctl.table = .main
  · simp only [runInstr, ht, hmain, if_true]
    exact ⟨_, rfl⟩
  · simpa only [runInstr, ht, hmain, if_false] using runSubTable_answers t

theorem afterCheck_answers (s : State) : ∃ t, afterCheck s = .next t := by
  by_cases hhalted : (acceptInterrupt s).ctl.halted = true
  · exact ⟨_, if_pos hhalted⟩
  · rw [show afterCheck s = runInstr (acceptInterrupt s) from if_neg hhalted]
    exact runInstr_answers _

theorem cpuStep_of_fault {s : State} (h : (eventCheck s).fault ≠ none) : cpuStep s = .next (eventCheck s) :=
  if_pos (Option.isSome_iff_ne_none.mpr h)

theorem cpuStep_of_no_fault {s : State} (h : (eventCheck s).fault = none) : cpuStep s = afterCheck (eventCheck s) :=
  if_neg (by simp [h])

theorem cpuStep_answers (s : State) : ∃ t, cpuStep s = .next t := by
  by_cases h : (eventCheck s).fault = none
  · rw [cpuStep_of_no_fault h]
    exact afterCheck_answers _
  · exact ⟨_, cpuStep_of_fault h⟩

/-! ### What runs: nothing, the frame driver or the CPU (R941, R943, R961) -/

theorem atFrameBoundary_iff (s : State) : atFrameBoundary s = true ↔ s.clock.frameEnd = true ∨ s.sig.paused = true :=
  Bool.or_eq_true_iff

theorem step_of_fault {s : State} {f : Fault} (h : s.fault = some f) : step s = .fault f := by
  simp only [step, machineStep, h]

theorem step_at_boundary {s : State} (h : s.fault = none) (hb : atFrameBoundary s = true) : step s = .next (frameBoundary s) := by
  simp only [step, machineStep, h, hb, if_true]

theorem step_off_boundary {s : State} (h : s.fault = none) (hb : ¬atFrameBoundary s = true) : step s = cpuStep s := by
  simp only [step, machineStep, h]
  exact if_neg hb

theorem step_answers {s : State} (h : s.fault = none) : ∃ t, step s = .next t := by
  by_cases hb : atFrameBoundary s = true
  · exact ⟨_, step_at_boundary h hb⟩
  · rw [step_off_boundary h hb]
    exact cpuStep_answers s

/-! ### The frame boundary (R942) -/

/-- The first scanline is above the visible ones, so a restarted frame is not contended (10_state.md R128). -/
theorem closeFrame_eq (s : State) : closeFrame s =
    { s with clock := if s.clock.frameEnd then { s.clock with frameEnd := false, line := 0, maybeContended := false } else s.clock } := by
  have hline : lineContended 0 = false := rfl
  cases h : s.clock.frameEnd with
  | true => simp only [closeFrame, h, if_true, hline, State.mapClock]
  | false => simp only [closeFrame, h, Bool.false_eq_true, if_false]

theorem unlessFault_of_fault {s : State} (h : s.fault ≠ none) (g : State → State) : unlessFault s g = s := by
  obtain ⟨f, hf⟩ := Option.ne_none_iff_exists'.mp h
  simp only [unlessFault, hf]

/-- Settles O40: every part of the CPU's step answers, and the fault state and the frame boundary are the branches before it. -/
theorem stepAnswersOrStops : Obligations.StepAnswersOrStops := by
  unfold Obligations.StepAnswersOrStops
  intro s
  refine ⟨step_answers, ?boundary, fun f => step_of_fault, ?check, closeFrame_eq s, fun h => unlessFault_none h pseudoInterrupts,
    fun h => unlessFault_of_fault h pseudoInterrupts⟩
  case boundary =>
    intro h hb
    exact step_at_boundary h ((atFrameBoundary_iff s).mpr hb)
  case check =>
    intro h hend hpaused hfault
    have hb : ¬atFrameBoundary s = true := by simp [atFrameBoundary_iff, hend, hpaused]
    rw [step_off_boundary h hb, cpuStep_of_fault hfault]

end Sys2Proof.Proofs.StepAnswers
end

section
/-! The maskable interrupt (60_exceptions.md R905, R906, R910 to R912). -/

namespace Sys2Proof.Proofs.MaskableInterrupt
open Sys2Proof Sys2Proof.Machine

theorem acceptInterrupt_of_accepts {s : State} (h : acceptsInterrupt s = true) : acceptInterrupt s = takeInterrupt .maskable s := if_pos h

theorem acceptInterrupt_of_not_accepts {s : State} (h : ¬acceptsInterrupt s = true) : acceptInterrupt s = s := if_neg h

/-- The control state an accepted maskable interrupt leaves (R906 (1), (4)). -/
abbrev takenCtl (s : State) : Control := { s.ctl with iff1 := false, iff2 := false, halted := false }

/-- The registers it leaves, with the handler's address. -/
abbrev takenRegs (s : State) (pc : Word) : Regs := { s.regs with pc := pc, sp := s.regs.sp - 2#16, r := refreshed s.regs.r }

/-- Its push of the return address (R906 (3)). -/
abbrev takenPush (s : State) : List Access := writesWord (s.regs.sp - 2#16) (returnAddress s)

/-- What is done before the handler's address is known: the push, and nothing else outside the registers and the control state. -/
theorem saved_did {s : State} (h : Memory.wf s.mem = true) : Did s (setIffs false false (saveReturn s)) (takenPush s) :=
  (saveReturn_did h).setIffs false false

theorem saved_regs (s : State) (pc : Word) : { (setIffs false false (saveReturn s)).regs with pc := pc } = takenRegs s pc := by
  simp [setIffs]

theorem saved_ctl (s : State) : (setIffs false false (saveReturn s)).ctl = takenCtl s := by
  simp [setIffs]

theorem saved_draws (s : State) : (setIffs false false (saveReturn s)).draws = s.draws := by
  simp [setIffs]

/-- The handler at the fixed address, in modes 0 and 1 (R910, R911). -/
theorem takeInterrupt_fixed_hasEffect {s : State} (hwf : Memory.wf s.mem = true) (him : s.ctl.im ≠ .im2) :
    HasEffect (takeInterrupt .maskable s) s
      { regs := takenRegs s 0x0038#16, ctl := takenCtl s, accesses := takenPush s, t := 13, n := 2 } := by
  rw [takeInterrupt_fixed him]
  exact hasEffect_of_did ((saved_did hwf).setPc _) (congrArg (·.closed 0#8) (saved_regs s _)) (saved_ctl s) fun _ => saved_draws s

/-- A word read once `l` has been done sees the bytes `l` left. -/
theorem wordAt_of_did {b t : State} {l : List Access} (h : Did b t l) (a : Word) :
    t.wordAt a = .ofBytes (bytesAfter l b (a + 1#16)) (bytesAfter l b a) := by
  rw [State.wordAt, h.bytes, h.bytes]

/-- The handler of the table's word, in mode 2 (R912): the word is read after the push, which may have written it. -/
theorem takeInterrupt_table_hasEffect {s : State} (hwf : Memory.wf s.mem = true) (him : s.ctl.im = .im2) :
    let va := Word.ofBytes s.regs.i 0xFF#8
    let pushed := bytesAfter (takenPush s) s
    HasEffect (takeInterrupt .maskable s) s
      { regs := takenRegs s (.ofBytes (pushed (va + 1#16)) (pushed va)), ctl := takenCtl s,
        accesses := takenPush s ++ readsWord va, t := 19, n := 4 } := by
  intro va pushed
  have hword : (setIffs false false (saveReturn s)).wordAt va = .ofBytes (pushed (va + 1#16)) (pushed va) :=
    wordAt_of_did (saved_did hwf) va
  rw [takeInterrupt_table him, ← hword]
  exact hasEffect_of_did (((saved_did hwf).readWord va).setPc _) (congrArg (·.closed 0#8) (saved_regs s _)) (saved_ctl s)
    fun _ => saved_draws s

/-- Settles O37: the acceptance test decides whether anything happens, and the mode where the accepted interrupt goes. -/
theorem maskableInterrupt : Obligations.MaskableInterrupt := by
  unfold Obligations.MaskableInterrupt
  intro s hwf accepts back push regs ctl va pushed
  have haccepts : acceptsInterrupt s = true ↔ accepts := acceptsInterrupt_iff s
  refine ⟨?notAccepted, ?fixed, ?table⟩
  case notAccepted =>
    intro h
    exact acceptInterrupt_of_not_accepts (mt haccepts.mp h)
  case fixed =>
    intro h him
    rw [acceptInterrupt_of_accepts (haccepts.mpr h)]
    exact takeInterrupt_fixed_hasEffect hwf him
  case table =>
    intro h him
    rw [acceptInterrupt_of_accepts (haccepts.mpr h)]
    exact takeInterrupt_table_hasEffect hwf him

end Sys2Proof.Proofs.MaskableInterrupt
end

section
/-! The event queue (61_event_queue.md): where an event goes, what is cancelled, and the handlers of the core's own events. -/

namespace Sys2Proof.Proofs.EventQueue
open Sys2Proof Sys2Proof.Machine

/-! ### Adding an event (R1004) -/

/-- The recursion of `insertEvent` walks past exactly the entries due no later than the new one. -/
theorem insertEvent_eq_split (e : Event) (q : List Event) :
    insertEvent e q = (q.takeWhile fun x => x.due ≤ e.due) ++ e :: q.dropWhile fun x => x.due ≤ e.due := by
  induction q with
  | nil => rfl
  | cons h t ih =>
    by_cases hlater : e.due < h.due
    · have hstop : ¬h.due ≤ e.due := Nat.not_le.mpr hlater
      simp [insertEvent, hlater, hstop]
    · have hpass : h.due ≤ e.due := Nat.le_of_not_lt hlater
      simp [insertEvent, hlater, hpass, ih]

theorem addEvent_of_full {s : State} (h : Config.eventCapacity ≤ s.events.length) (k : EventKind) (due : Nat) :
    addEvent k due s = s.raise .queueExhausted := if_pos h

theorem addEvent_of_room {s : State} (h : s.events.length < Config.eventCapacity) (k : EventKind) (due : Nat) :
    addEvent k due s = s.setEvents (insertEvent ⟨k, due⟩ s.events) := if_neg (Nat.not_le.mpr h)

/-- Settles O52: the queue's insertion is a split of the queue at the new event's due time. -/
theorem eventQueueOperations : Obligations.EventQueueOperations := by
  unfold Obligations.EventQueueOperations
  intro s k due early late
  refine ⟨?full, ?room, ?cancel⟩
  case full =>
    intro h
    exact addEvent_of_full h.ge k due
  case room =>
    intro h
    rw [addEvent_of_room h, insertEvent_eq_split]
    rfl
  case cancel => rfl

/-! ### The handlers (R1020 to R1033) -/

/-- With room in the queue, adding an event raises no fault, so what follows it is done. -/
theorem unlessFault_addEvent_of_room {s : State} (hfault : s.fault = none) (hroom : s.events.length < Config.eventCapacity)
    (k : EventKind) (due : Nat) (g : State → State) : unlessFault (addEvent k due s) g = g (addEvent k due s) := by
  apply unlessFault_none
  rw [addEvent_of_room hroom, State.setEvents_fault, hfault]

section
variable {s : State} (hfault : s.fault = none) (hroom : s.events.length < Config.eventCapacity) (t now budget : Nat)
include hfault hroom

theorem dispatch_frameIntStart_of_room :
    (dispatch ⟨.frameIntStart, t⟩ now budget s).1 =
      addEvent .frameIntStart (t + Config.cyclesPerFrame)
        (addEvent .frameIntEnd (t + Config.intActiveCycles) (setIntBit intFrame false s)) :=
  unlessFault_addEvent_of_room (s := setIntBit intFrame false s) hfault hroom ..

theorem dispatch_lineIntStart_of_room :
    (dispatch ⟨.lineIntStart, t⟩ now budget s).1 =
      addEvent .lineIntStart (t + Config.cyclesPerFrame)
        (addEvent .lineIntEnd (t + Config.intActiveCycles) (setIntBit intLine false s)) :=
  unlessFault_addEvent_of_room (s := setIntBit intLine false s) hfault hroom ..

end

/-- Setting a source bit, which is active low, ends its request (10_state.md R130). -/
theorem setIntBit_set (mask : Byte) (s : State) :
    setIntBit mask true s = { s with sig := { s.sig with intStatus := s.sig.intStatus ||| mask } } := rfl

theorem setIntBit_clear (mask : Byte) (s : State) :
    setIntBit mask false s = { s with sig := { s.sig with intStatus := s.sig.intStatus &&& ~~~mask } } := rfl

/-- Settles O53: the end events and MidiOutStart write one bit; a start event has room for its end event, so its successor is added too. -/
theorem eventHandlers : Obligations.EventHandlers := by
  unfold Obligations.EventHandlers
  intro s t now budget bits on
  refine ⟨setIntBit_set intFrame s, setIntBit_set intLine s, setIntBit_clear intMidiOut s, setIntBit_set intMidiOut s, ?asicReady,
    fun hfault hroom => ⟨?frameIntStart, ?lineIntStart⟩⟩
  case asicReady => rfl
  case frameIntStart =>
    rw [show on .frameIntStart = _ from dispatch_frameIntStart_of_room hfault hroom t now budget, setIntBit_clear]
    rfl
  case lineIntStart =>
    rw [show on .lineIntStart = _ from dispatch_lineIntStart_of_room hfault hroom t now budget, setIntBit_clear]
    rfl

end Sys2Proof.Proofs.EventQueue
end

section
/-! The status bits of the controller (62_fdc.md R1110) and the masks that test them. -/

namespace Sys2Proof.Proofs.FdcStatus
open Sys2Proof Sys2Proof.Machine

/-- A mask of one bit tells whether that bit is set. -/
theorem and_twoPow_eq_zero_iff {w : Nat} (v : BitVec w) {i : Nat} (hi : i < w) : v &&& BitVec.twoPow w i = 0#w ↔ v.getLsbD i = false := by
  have hmask : BitVec.twoPow w i ≠ 0#w := fun h => by simpa [hi] using congrArg (·.getLsbD i) h
  rw [BitVec.and_twoPow]
  cases v.getLsbD i <;> simp [hmask]

theorem and_crcError_eq_zero_iff (st : Byte) : st &&& stCrcError = 0#8 ↔ st.getLsbD 3 = false :=
  and_twoPow_eq_zero_iff st (i := 3) (by decide)

theorem and_recordNotFound_eq_zero_iff (st : Byte) : st &&& stRecordNotFound = 0#8 ↔ st.getLsbD 4 = false :=
  and_twoPow_eq_zero_iff st (i := 4) (by decide)

theorem and_deletedData_eq_zero_iff (st : Byte) : st &&& stDeletedData = 0#8 ↔ st.getLsbD 5 = false :=
  and_twoPow_eq_zero_iff st (i := 5) (by decide)

end Sys2Proof.Proofs.FdcStatus
end

section
/-! The CRC of the disk format (62_fdc.md R1170): its table, its fold, and what the two give for a message with its CRC behind it. -/

namespace Sys2Proof.Proofs.DiskCrc
open Sys2Proof Sys2Proof.Machine Sys2Proof.Proofs.FdcStatus

/-! ### The table and the fold -/

/-- One round of the table, as R1170 writes it. -/
theorem crcShift_eq (c : Word) : crcShift c = if c &&& 0x8000#16 ≠ 0#16 then (c <<< 1) ^^^ 0x1021#16 else c <<< 1 := by
  have hbit : c &&& 0x8000#16 = 0#16 ↔ c.getLsbD 15 = false := and_twoPow_eq_zero_iff c (i := 15) (by decide)
  simp only [crcShift, ne_eq, hbit, Bool.not_eq_false]
  rfl

theorem crcTable_eq_iterate (i : Byte) : crcTable i = crcShift^[8] (Word.ofBytes i 0#8) := rfl

theorem crcTable_zero : crcTable 0#8 = 0#16 := by decide

@[simp] theorem crc_nil (c : Word) : crc [] c = c := rfl

theorem crc_cons (b : Byte) (l : List Byte) (c : Word) : crc (b :: l) c = crc l (crcByte c b) := rfl

theorem crc_append (a b : List Byte) (c : Word) : crc (a ++ b) c = crc b (crc a c) := List.foldl_append

/-! ### A message with its CRC behind it -/

/-- A byte equal to the high byte of the CRC so far picks the zero entry of the table, so it only shifts the CRC. -/
theorem crcByte_hiByte (c : Word) : crcByte c (hiByte c) = c <<< 8 := by
  simp [crcByte, crcTable_zero]

theorem hiByte_shiftLeft (c : Word) : hiByte (c <<< 8) = loByte c := by
  ext i hi
  have : 8 + i < 16 := by omega
  simp [hiByte, loByte, this, BitVec.getLsbD_eq_getElem, Nat.lt_add_right 8 hi]

theorem crc_own_bytes (c : Word) : crc [hiByte c, loByte c] c = 0#16 :=
  calc crc [hiByte c, loByte c] c
      = crcByte (c <<< 8) (hiByte (c <<< 8)) := by rw [crc_cons, crcByte_hiByte, hiByte_shiftLeft]; rfl
    _ = c <<< 8 <<< 8 := crcByte_hiByte _
    _ = 0#16 := by rw [← BitVec.shiftLeft_add]; exact BitVec.shiftLeft_eq_zero (by decide)

/-- Settles O32: the laws from the fold and the zero entry of the table, the reference values by evaluation. -/
theorem crcLaws : Obligations.CrcLaws := by
  unfold Obligations.CrcLaws
  refine ⟨fun i => ?table, crc_nil, crc_cons, crc_append, fun m c => ?ownCrc, fun _ => rfl, fun _ _ => rfl, ?values⟩
  case table => rw [crcTable_eq_iterate, funext crcShift_eq]
  case ownCrc => rw [crc_append, crc_own_bytes]
  case values => decide

end Sys2Proof.Proofs.DiskCrc
end

section
/-! The raw track stream (62_fdc.md R1171) and the parse of a format write (R1172). -/

namespace Sys2Proof.Proofs.RawTrack
open Sys2Proof Sys2Proof.Machine Sys2Proof.Proofs.FdcStatus

/-! ### The layout of the stream (R1171) -/

/-- The lead-in: GAP4A, a sync field, the index mark, GAP1. -/
def leadIn : List Byte :=
  List.replicate 80 0x4E#8 ++ List.replicate 12 0x00#8 ++ [0xC2#8, 0xC2#8, 0xC2#8, 0xFC#8] ++ List.replicate 50 0x4E#8

/-- A sector's ID mark and ID bytes, up to their CRC. -/
def idBytes (id : IdField) : List Byte := [0xA1#8, 0xA1#8, 0xA1#8, 0xFE#8, id.track, id.side, id.sector, id.size]

/-- The ID part of a sector, with GAP2. -/
def idPart (x : TrackSector) : List Byte :=
  List.replicate 12 0x00#8 ++ idBytes x.id ++ streamCrc (idCrc x.id) x.idStatus ++ List.replicate 22 0x4E#8

/-- The mark of a data field. -/
def dataMarkByte (dataStatus : Byte) : Byte := if dataStatus.getLsbD 5 then 0xF8#8 else 0xFB#8

/-- The data part of a sector, with GAP3. -/
def dataPart (x : TrackSector) : List Byte :=
  List.replicate 12 0x00#8 ++ [0xA1#8, 0xA1#8, 0xA1#8, dataMarkByte x.dataStatus] ++ x.data ++
    streamCrc (dataCrc (dataMarkByte x.dataStatus) x.data) x.dataStatus ++ List.replicate 24 0x4E#8

theorem rawTrack_eq (ss : List TrackSector) :
    rawTrack ss = (leadIn ++ ss.flatMap rawSector ++ List.replicate 6250 0x4E#8).take 6250 := rfl

theorem dataMarkByte_eq (dataStatus : Byte) : dataMarkByte dataStatus = if dataStatus &&& stDeletedData = 0#8 then 0xFB#8 else 0xF8#8 := by
  simp only [dataMarkByte, and_deletedData_eq_zero_iff]
  cases dataStatus.getLsbD 5 <;> rfl

/-- With a data field a sector's stream is its two parts. -/
theorem rawSector_of_data {x : TrackSector} (h : x.dataStatus.getLsbD 4 = false) : rawSector x = idPart x ++ dataPart x := by
  rw [dataPart, dataMarkByte_eq]
  exact if_pos ((and_recordNotFound_eq_zero_iff _).mpr h)

/-- With or without a data field it begins with the ID part. -/
theorem idPart_prefix_rawSector (x : TrackSector) : idPart x <+: rawSector x := by
  cases h : x.dataStatus.getLsbD 4
  · exact rawSector_of_data h ▸ List.prefix_append ..
  · have hnoData : ¬x.dataStatus &&& stRecordNotFound = 0#8 := by simp [and_recordNotFound_eq_zero_iff, h]
    have hsector : rawSector x = idPart x := if_neg hnoData
    exact hsector ▸ List.prefix_rfl

@[simp] theorem rawTrack_length (ss : List TrackSector) : (rawTrack ss).length = 6250 := by
  rw [rawTrack_eq, List.length_take, List.length_append, List.length_replicate]
  omega

theorem idPart_length (x : TrackSector) : (idPart x).length = 44 := rfl

theorem leadIn_length : leadIn.length = 146 := by
  simp only [leadIn, List.length_append, List.length_replicate, List.length_cons, List.length_nil]

/-! ### Where its parts stand -/

/-- What stands behind `n` bytes of the lead-in and the sectors, and ends within 6250 bytes, stands there on the track. -/
theorem rawTrack_part {ss : List TrackSector} {before part : List Byte} {n m : Nat}
    (h : before ++ part <+: leadIn ++ ss.flatMap rawSector) (hn : before.length = n) (hm : part.length = m) (hend : n + m ≤ 6250) :
    ((rawTrack ss).drop n).take m = part := by
  obtain ⟨after, hafter⟩ := h
  subst hn hm
  have hroom : min part.length (6250 - before.length) = part.length := by omega
  simp only [rawTrack_eq, ← hafter, List.append_assoc, List.drop_take, List.drop_left, List.take_take, hroom, List.take_left]

/-- The same of the first sector. -/
theorem rawTrack_cons_part {x : TrackSector} (rest : List TrackSector) {before part : List Byte} {n m : Nat}
    (h : before ++ part <+: rawSector x) (hn : 146 + before.length = n) (hm : part.length = m) (hend : n + m ≤ 6250) :
    ((rawTrack (x :: rest)).drop n).take m = part := by
  refine rawTrack_part (before := leadIn ++ before) ?_ (by rw [List.length_append, leadIn_length, hn]) hm hend
  rw [List.append_assoc, List.flatMap_cons, List.prefix_append_right_inj]
  exact h.trans (List.prefix_append ..)

/-- The ID mark and the ID bytes of the first sector. -/
theorem rawTrack_idBytes (x : TrackSector) (rest : List TrackSector) : ((rawTrack (x :: rest)).drop 158).take 8 = idBytes x.id := by
  have hpart : List.replicate 12 0x00#8 ++ idBytes x.id <+: idPart x := (List.prefix_append ..).trans (List.prefix_append ..)
  exact rawTrack_cons_part rest (hpart.trans (idPart_prefix_rawSector x)) rfl rfl (by decide)

/-- The CRC of its ID. -/
theorem rawTrack_idCrc (x : TrackSector) (rest : List TrackSector) :
    ((rawTrack (x :: rest)).drop 166).take 2 = streamCrc (idCrc x.id) x.idStatus := by
  have hpart : List.replicate 12 0x00#8 ++ idBytes x.id ++ streamCrc (idCrc x.id) x.idStatus <+: idPart x := List.prefix_append ..
  exact rawTrack_cons_part rest (hpart.trans (idPart_prefix_rawSector x)) rfl rfl (by decide)

/-- A part of its data field. -/
theorem rawTrack_dataPart {x : TrackSector} (rest : List TrackSector) (hdata : x.dataStatus.getLsbD 4 = false) {before part : List Byte}
    {n m : Nat} (h : before ++ part <+: dataPart x) (hn : 190 + before.length = n) (hm : part.length = m) (hend : n + m ≤ 6250) :
    ((rawTrack (x :: rest)).drop n).take m = part := by
  refine rawTrack_cons_part rest (before := idPart x ++ before) ?_ ?_ hm hend
  · rw [rawSector_of_data hdata, List.append_assoc, List.prefix_append_right_inj]
    exact h
  · rw [List.length_append, idPart_length, ← hn]
    omega

/-! ### The parse (R1172) -/

/-- A place of the buffer stands behind three sync bytes. -/
abbrev Synced (buf : List Byte) (p : Nat) : Prop :=
  buf.getD (p - 3) 0#8 = 0xF5#8 ∧ buf.getD (p - 2) 0#8 = 0xF5#8 ∧ buf.getD (p - 1) 0#8 = 0xF5#8

/-- An ID mark stands there, and its four bytes fit. -/
abbrev IdMark (buf : List Byte) (len p : Nat) : Prop := Synced buf p ∧ buf.getD p 0#8 = 0xFE#8 ∧ p + 4 < len

/-- A data mark stands there. -/
abbrev DataMark (buf : List Byte) (p : Nat) : Prop := Synced buf p ∧ (buf.getD p 0#8 = 0xFB#8 ∨ buf.getD p 0#8 = 0xF8#8)

/-- The four ID bytes from a place of the buffer. -/
abbrev idAt (buf : List Byte) (p : Nat) : IdField :=
  ⟨buf.getD p 0#8, buf.getD (p + 1) 0#8, buf.getD (p + 2) 0#8, buf.getD (p + 3) 0#8⟩

/-- The parse from a place of the buffer, with turns enough for all of it. -/
def parseFrom (buf : List Byte) (len p : Nat) (pending : Option IdField) : List (IdField × List Byte) := parseLoop len buf len p pending

theorem parseFormat_eq (buf : List Byte) (len : Nat) : parseFormat buf len = parseFrom buf len 3 none := rfl

section
variable {buf : List Byte} {len p : Nat}

theorem parseFrom_of_end (pending : Option IdField) (h : len ≤ p) : parseFrom buf len p pending = [] := parseLoop_past _ _ _ h

/-- A turn more than enough changes nothing, so the equation of the loop's turn holds of the parse. -/
theorem parseFrom_eq_turn (pending : Option IdField) : parseFrom buf len p pending = parseLoop (len + 1) buf len p pending :=
  parseLoop_fuel buf len _ _ p pending (Nat.sub_le ..) ((Nat.sub_le ..).trans (Nat.le_succ _))

theorem parseFrom_none_eq (hp : p < len) :
    parseFrom buf len p none =
      if IdMark buf len p then parseFrom buf len (p + 5) (some (idAt buf (p + 1))) else parseFrom buf len (p + 1) none := by
  rw [parseFrom_eq_turn]
  simp [parseLoop, parseFrom, idAt, hp, and_assoc]

theorem parseFrom_some_eq (id : IdField) (hp : p < len) :
    parseFrom buf len p (some id) =
      if IdMark buf len p then parseFrom buf len (p + 5) (some (idAt buf (p + 1)))
      else if DataMark buf p then
        if len < p + 1 + Config.sectorSize id.size then []
        else (id, (buf.drop (p + 1)).take (Config.sectorSize id.size)) :: parseFrom buf len (p + 1 + Config.sectorSize id.size) none
      else parseFrom buf len (p + 1) (some id) := by
  rw [parseFrom_eq_turn]
  simp [parseLoop, parseFrom, idAt, hp, and_assoc]

theorem not_idMark_of_dataMark (h : DataMark buf p) : ¬IdMark buf len p := by
  rintro ⟨-, hid, -⟩
  obtain ⟨-, h | h⟩ := h <;> rw [hid] at h <;> exact absurd h (by decide)

variable (hp : p < len)
include hp

theorem parseFrom_of_idMark (pending : Option IdField) (h : IdMark buf len p) :
    parseFrom buf len p pending = parseFrom buf len (p + 5) (some (idAt buf (p + 1))) := by
  cases pending with
  | none => exact (parseFrom_none_eq hp).trans (if_pos h)
  | some id => exact (parseFrom_some_eq id hp).trans (if_pos h)

/-- A data mark whose sector is cut short ends the parse. -/
theorem parseFrom_of_cut_dataMark {id : IdField} (h : DataMark buf p) (hcut : len < p + 1 + Config.sectorSize id.size) :
    parseFrom buf len p (some id) = [] := by
  rw [parseFrom_some_eq id hp, if_neg (not_idMark_of_dataMark h)]
  exact (if_pos h).trans (if_pos hcut)

theorem parseFrom_of_dataMark {id : IdField} (h : DataMark buf p) (hfits : p + 1 + Config.sectorSize id.size ≤ len) :
    parseFrom buf len p (some id) =
      (id, (buf.drop (p + 1)).take (Config.sectorSize id.size)) :: parseFrom buf len (p + 1 + Config.sectorSize id.size) none := by
  rw [parseFrom_some_eq id hp, if_neg (not_idMark_of_dataMark h)]
  exact (if_pos h).trans (if_neg (Nat.not_lt.mpr hfits))

/-- Any other byte is passed over, a data mark with no ID pending among them. -/
theorem parseFrom_of_other {pending : Option IdField} (hid : ¬IdMark buf len p) (hdata : ¬(DataMark buf p ∧ pending ≠ none)) :
    parseFrom buf len p pending = parseFrom buf len (p + 1) pending := by
  cases pending with
  | none => exact (parseFrom_none_eq hp).trans (if_neg hid)
  | some id =>
    have hother : ¬DataMark buf p := fun h => hdata ⟨h, Option.some_ne_none id⟩
    rw [parseFrom_some_eq id hp, if_neg hid, if_neg hother]

end

/-- Settles O33: each part of the stream at its place in the layout, each branch of the parse at a turn of its loop. -/
theorem rawTrackStream : Obligations.RawTrackStream := by
  unfold Obligations.RawTrackStream
  constructor
  case left =>
    intro ss
    refine ⟨rawTrack_length ss, rawTrack_part (before := []) ?_ rfl List.length_replicate (by decide),
      rawTrack_part (before := List.replicate 80 0x4E#8 ++ List.replicate 12 0x00#8) ?_ rfl rfl (by decide), ?sector⟩
    · exact ((List.prefix_append ..).trans (List.prefix_append ..)).trans ((List.prefix_append ..).trans (List.prefix_append ..))
    · exact (List.prefix_append ..).trans (List.prefix_append ..)
    case sector =>
      rintro x rest rfl
      refine ⟨rawTrack_idBytes x rest, fun hcrc => ?_, fun hdata => ?_, fun hdata hlen => ?_⟩
      · rw [rawTrack_idCrc, hcrc]
        rfl
      · exact rawTrack_dataPart rest hdata (before := List.replicate 12 0x00#8)
          (((List.prefix_append ..).trans (List.prefix_append ..)).trans (List.prefix_append ..)) rfl rfl (by decide)
      · exact rawTrack_dataPart rest hdata ((List.prefix_append ..).trans (List.prefix_append ..)) rfl rfl (by omega)
  case right =>
    intro buf len
    refine ⟨parseFrom buf len, parseFormat_eq buf len, fun p pending => ?_⟩
    simp only [← sectorSize_eq]
    exact ⟨parseFrom_of_end pending, fun hp => parseFrom_of_idMark hp pending,
      fun id hp h hpending hcut => hpending ▸ parseFrom_of_cut_dataMark hp h hcut,
      fun id hp h hpending hfits => hpending ▸ parseFrom_of_dataMark hp h hfits,
      fun hp hid hdata => parseFrom_of_other hp hid hdata⟩

end Sys2Proof.Proofs.RawTrack
end

section
/-! The controller's commands, data register, completion and frame tick (62_fdc.md R1135, R1150 to R1152, R1180). -/

namespace Sys2Proof.Proofs.FdcRegisters
open Sys2Proof Sys2Proof.Machine Sys2Proof.Proofs.FdcStatus

/-! ### FORCE_INTERRUPT, and the other commands while busy (R1115, R1135) -/

theorem fdcCommand_of_busy {s : State} (h : fdcBusy s = true) {code : Byte} (hcode : code ≠ 0xD0#8) (side : Bool) (flags : BitVec 4)
    (effect : State → State) : fdcCommand code side flags effect s = s :=
  if_pos (by simp [h, hcode])

theorem fdcForceInterrupt_eq (side : Bool) (flags : BitVec 4) (s : State) :
    fdcForceInterrupt side flags s = s.mapFdc (acceptedFdc 0xD0#8 side flags) :=
  if_neg (by simp)

theorem exec_fdcForceInterrupt (side : Bool) (flags : BitVec 4) (s : State) :
    exec (.fdcForceInterrupt side flags) s = .next (fdcForceInterrupt side flags s) := by
  rfl

/-- The commands other than FORCE_INTERRUPT. -/
abbrev commands : List (Bool → BitVec 4 → Instr) :=
  [.fdcRestore, .fdcSeek, .fdcStep, .fdcStepUpdate, .fdcStepIn, .fdcStepInUpdate, .fdcStepOut, .fdcStepOutUpdate, .fdcReadSector,
    .fdcReadSectors, .fdcWriteSector, .fdcWriteSectors, .fdcReadAddress, .fdcReadTrack, .fdcWriteTrack]

/-- Each is a command write of a code of its own. -/
theorem exec_command {c : Bool → BitVec 4 → Instr} (hc : c ∈ commands) :
    ∃ (code : Byte) (effect : State → State), code ≠ 0xD0#8 ∧
      ∀ side flags s, exec (c side flags) s = .next (fdcCommand code side flags effect s) := by
  simp only [commands, List.mem_cons, List.not_mem_nil, or_false] at hc
  obtain rfl | rfl | rfl | rfl | rfl | rfl | rfl | rfl | rfl | rfl | rfl | rfl | rfl | rfl | rfl := hc
  all_goals exact ⟨_, _, by decide, fun _ _ _ => rfl⟩

theorem decodeFdcCommand_forceInterrupt (side : Bool) (flags : BitVec 4) :
    decodeFdcCommand side (0xD#4 ++ flags) = .fdcForceInterrupt side flags := by
  have hcode : (0xD#4 ++ flags).toNat / 16 = 13 := by revert flags; decide
  have hflags : (0xD#4 ++ flags).extractLsb' 0 4 = flags := by revert flags; decide
  simp only [decodeFdcCommand, hcode, hflags]

/-! ### A status read of a command that is over (R1140, R1141) -/

/-- The index pulse counts a read, and writes nothing else. -/
theorem indexPulse_fdc (s : State) : ∃ n, (indexPulse s).2.fdc = { s.fdc with idxCount := n } := by
  unfold indexPulse
  split
  · exact ⟨_, rfl⟩
  · exact ⟨_, rfl⟩

theorem fdcStatusRead_of_type1 {s : State} (hidle : fdcBusy s = false) (htype : statusIsType1 s.fdc.cmd = true) :
    fdcStatusRead s =
      (s.fdc.status ||| statusBit (s.fdc.head == 0) stTrack00 ||| statusBit (indexPulse s).1 stIndex, (indexPulse s).2) := by
  simp [fdcStatusRead, hidle, htype]

@[simp] theorem getElem_statusBit (b : Bool) (mask : Byte) (i : Nat) (hi : i < 8) : (statusBit b mask)[i] = (b && mask[i]) := by
  cases b <;> simp [statusBit]

/-- After an interrupted command the read shows TRACK00 in bit 2. -/
theorem fdcStatusRead_after_forceInterrupt (side : Bool) (flags : BitVec 4) (s : State) :
    (fdcStatusRead (s.mapFdc (acceptedFdc 0xD0#8 side flags))).1.getLsbD 2 = decide (s.fdc.head = 0) := by
  rw [fdcStatusRead_of_type1 (by simp [fdcBusy, acceptedFdc]) (by simp [statusIsType1, acceptedFdc])]
  simp [acceptedFdc, stTrack00, stIndex, beq_eq_decide]

/-- Settles O24: FORCE_INTERRUPT passes the busy test by its code, no other command does. -/
theorem fdcForceInterruptCompletes : Obligations.FdcForceInterruptCompletes := by
  unfold Obligations.FdcForceInterruptCompletes
  intro s side flags
  refine ⟨⟨decodeFdcCommand_forceInterrupt side flags, ?effect, fdcStatusRead_after_forceInterrupt side flags s⟩, ?busy⟩
  case effect => rw [exec_fdcForceInterrupt, fdcForceInterrupt_eq]
  case busy =>
    intro hbusy c hc
    obtain ⟨code, effect, hcode, hexec⟩ := exec_command hc
    rw [hexec, fdcCommand_of_busy hbusy hcode]

/-! ### The data register (R1150, R1151) -/

theorem fdcIsWrite_iff (cmd : Byte) : fdcIsWrite cmd = true ↔ cmd = 0xA0#8 ∨ cmd = 0xB0#8 ∨ cmd = 0xF0#8 := by
  simp [fdcIsWrite, or_assoc]

theorem advanceTransfer_of_not_last {s : State} (h : ¬s.fdc.bufPos + 1 = s.fdc.bufLen) :
    advanceTransfer s = { s with fdc := { s.fdc with bufPos := s.fdc.bufPos + 1 } } := if_neg h

theorem advanceTransfer_of_last {s : State} (h : s.fdc.bufPos + 1 = s.fdc.bufLen) :
    advanceTransfer s =
      complete { s with fdc := { s.fdc with bufPos := s.fdc.bufPos + 1, status := s.fdc.status &&& 0xFD#8 } } := if_pos h

/-- A transfer to the CPU is armed. -/
abbrev ReadArmed (f : Fdc) : Prop := f.status.getLsbD 1 = true ∧ ¬fdcIsWrite f.cmd = true

/-- A transfer from the CPU is armed. -/
abbrev WriteArmed (f : Fdc) : Prop := f.status.getLsbD 1 = true ∧ fdcIsWrite f.cmd = true

theorem fdcDataRead_of_armed {s : State} (h : ReadArmed s.fdc) :
    fdcDataRead s = (s.fdc.buf.getD s.fdc.bufPos 0#8, advanceTransfer (s.mapFdc fun f => { f with data := f.buf.getD f.bufPos 0#8 })) :=
  if_pos (by simpa [fdcDrq, ReadArmed, WriteArmed] using h)

theorem fdcDataRead_of_not_armed {s : State} (h : ¬ReadArmed s.fdc) : fdcDataRead s = (s.fdc.data, s) :=
  if_neg (by simpa [fdcDrq, ReadArmed, WriteArmed] using h)

theorem fdcDataWrite_of_armed {s : State} (h : WriteArmed s.fdc) (v : Byte) :
    fdcDataWrite v s = advanceTransfer (s.mapFdc fun f => { f with data := v, buf := putAt f.buf f.bufPos v }) :=
  if_pos (by simpa [fdcDrq, ReadArmed, WriteArmed] using h)

theorem fdcDataWrite_of_not_armed {s : State} (h : ¬WriteArmed s.fdc) (v : Byte) :
    fdcDataWrite v s = s.mapFdc fun f => { f with data := v } :=
  if_neg (by simpa [fdcDrq, ReadArmed, WriteArmed] using h)

/-- Settles O28: armed or not, then the last byte or not. -/
theorem fdcDataRegister : Obligations.FdcDataRegister := by
  unfold Obligations.FdcDataRegister
  intro s v
  simp only [← fdcIsWrite_iff]
  refine ⟨fdcDataRead_of_not_armed, fun hdrq hread hlast => ?readOn, fun hdrq hread hlast => ?readLast,
    fun h => fdcDataWrite_of_not_armed h v, fun hdrq hwrite hlast => ?writeOn, fun hdrq hwrite hlast => ?writeLast, fun k => getD_putAt ..⟩
  case readOn =>
    rw [fdcDataRead_of_armed ⟨hdrq, hread⟩]
    exact congrArg (Prod.mk _) (advanceTransfer_of_not_last hlast)
  case readLast =>
    rw [fdcDataRead_of_armed ⟨hdrq, hread⟩]
    exact congrArg (Prod.mk _) (advanceTransfer_of_last hlast)
  case writeOn =>
    rw [fdcDataWrite_of_armed ⟨hdrq, hwrite⟩]
    exact advanceTransfer_of_not_last hlast
  case writeLast =>
    rw [fdcDataWrite_of_armed ⟨hdrq, hwrite⟩]
    exact advanceTransfer_of_last hlast

/-! ### Completion (R1152) -/

section
variable {s : State}

theorem complete_readSector (h : s.fdc.cmd = 0x80#8) : complete s = endCommand s.fdc.dataStatus s := by
  simp [complete, h]

theorem complete_readSectors (h : s.fdc.cmd = 0x90#8) :
    complete s = if s.fdc.dataStatus &&& stCrcError = 0#8 then nextSector s else endCommand stCrcError s := by
  simp [complete, h]

theorem complete_writeSector (h : s.fdc.cmd = 0xA0#8) : complete s = endCommand (flush s).1 (flush s).2 := by
  simp [complete, h]

theorem complete_writeSectors (h : s.fdc.cmd = 0xB0#8) :
    complete s = if (flush s).1 = 0#8 then nextSector (flush s).2 else endCommand (flush s).1 (flush s).2 := by
  simp [complete, h]

theorem complete_readAddress (h : s.fdc.cmd = 0xC0#8) :
    complete s = endCommand s.fdc.dataStatus (s.mapFdc fun f => { f with sector := f.id.id.track }) := by
  simp [complete, h]

theorem complete_readTrack (h : s.fdc.cmd = 0xE0#8) : complete s = endCommand 0#8 s := by
  simp [complete, h]

theorem complete_writeTrack (h : s.fdc.cmd = 0xF0#8) :
    complete s =
      endCommand (diskFormatTrack (parseFormat s.fdc.buf s.fdc.bufLen) s).1 (diskFormatTrack (parseFormat s.fdc.buf s.fdc.bufLen) s).2 := by
  simp [complete, h]

/-! ### The calls of a completion, on each kind of drive -/

theorem setDisk_self {d : Option Disk} (h : s.fdc.disk = d) : setDisk d s = s := by
  subst h
  rfl

theorem flush_of_none (h : s.fdc.disk = none) : flush s = (0x10#8, s) := by
  simp [flush, diskWriteData, h, stRecordNotFound]

theorem flush_of_image {d : DiskImage} (h : s.fdc.disk = some (.image d)) :
    flush s = ((imageWriteData (s.fdc.buf.take s.fdc.bufLen) d).1,
      setDisk (some (.image (imageWriteData (s.fdc.buf.take s.fdc.bufLen) d).2)) s) := by
  simp [flush, diskWriteData, h, rawAnswer, Disk.writeData]

theorem flush_of_device {d : DiskDevice} (h : s.fdc.disk = some (.device d)) :
    flush s = ((Config.diskAnswer s.draws).status &&& 0x70#8, s.nextDraw) := by
  simp [flush, diskWriteData, h, rawAnswer, Disk.writeData, setDisk_self, stWriteProtect, stRecordNotFound, stDeletedData]

variable (ss : List (IdField × List Byte))

theorem diskFormatTrack_of_none (h : s.fdc.disk = none) : diskFormatTrack ss s = (0x10#8, s) := by
  simp [diskFormatTrack, h, stRecordNotFound]

theorem diskFormatTrack_of_image {d : DiskImage} (h : s.fdc.disk = some (.image d)) :
    diskFormatTrack ss s = ((imageFormatTrack (headKey s) ss d).1, setDisk (some (.image (imageFormatTrack (headKey s) ss d).2)) s) := by
  simp [diskFormatTrack, h, rawAnswer, Disk.formatTrack]

theorem diskFormatTrack_of_device {d : DiskDevice} (h : s.fdc.disk = some (.device d)) :
    diskFormatTrack ss s = ((Config.diskAnswer s.draws).status &&& 0x40#8, s.nextDraw) := by
  simp [diskFormatTrack, h, rawAnswer, Disk.formatTrack, setDisk_self, stWriteProtect]

end

/-- Settles O29: the command's completion, then the call it makes on the drive's disk. -/
theorem fdcCompletion : Obligations.FdcCompletion := by
  unfold Obligations.FdcCompletion
  intro s ended next bytes
  refine ⟨fun h => complete_readSector h, fun h hgood => ?goodSector, fun h hbad => ?badSector, fun h => complete_readAddress h,
    fun h => complete_readTrack h, fun hdisk h => ?noDisk, fun d hdisk => ?image, fun d hdisk => ?device⟩
  case goodSector => rw [complete_readSectors h, if_pos ((and_crcError_eq_zero_iff _).mpr hgood)]; rfl
  case badSector =>
    have hst : ¬s.fdc.dataStatus &&& stCrcError = 0#8 := by simp [and_crcError_eq_zero_iff, hbad]
    rw [complete_readSectors h, if_neg hst]
    rfl
  case noDisk =>
    simp only [List.mem_cons, List.not_mem_nil, or_false] at h
    obtain h | h | h := h
    · rw [complete_writeSector h, flush_of_none hdisk]; rfl
    · rw [complete_writeSectors h, flush_of_none hdisk, if_neg (by simp)]; rfl
    · rw [complete_writeTrack h, diskFormatTrack_of_none _ hdisk]; rfl
  case image =>
    intro w m
    have hflush : flush s = (w.1, setDisk (some (.image w.2)) s) := flush_of_image hdisk
    refine ⟨fun h => ?_, fun h hw => ?_, fun h hw => ?_, fun h => ?_⟩
    · rw [complete_writeSector h, hflush]; rfl
    · rw [complete_writeSectors h, hflush, if_pos hw]; rfl
    · rw [complete_writeSectors h, hflush, if_neg hw]; rfl
    · rw [complete_writeTrack h, diskFormatTrack_of_image _ hdisk]; rfl
  case device =>
    intro drawn answer w
    have hflush : flush s = (w, s.nextDraw) := flush_of_device hdisk
    refine ⟨fun h => ?_, fun h hw => ?_, fun h hw => ?_, fun h => ?_⟩
    · rw [complete_writeSector h, hflush]; rfl
    · rw [complete_writeSectors h, hflush, if_pos hw]; rfl
    · rw [complete_writeSectors h, hflush, if_neg hw]; rfl
    · rw [complete_writeTrack h, diskFormatTrack_of_device _ hdisk]; rfl

/-! ### The frame tick (R1180) -/

/-- The last frame of the motor: closing a physical disk changes no answer of it. -/
theorem fdcFrameTick_of_one {s : State} (h : s.fdc.motorFrames = 1) :
    fdcFrameTick s = { s with fdc := { s.fdc with motorFrames := 0, status := s.fdc.status &&& 0x7F#8 } } := by
  simp only [Machine.fdcFrameTick, diskClose, ite_self, setStatus, State.mapFdc, h]
  cases s.fdc.disk <;> rfl

/-- Settles O34, by the count before the tick. -/
theorem fdcFrameTick : Obligations.FdcFrameTick := by
  unfold Obligations.FdcFrameTick
  intro s
  refine ⟨fun h => if_pos h, fdcFrameTick_of_one, fun h => ?_⟩
  rw [Machine.fdcFrameTick, if_neg (by omega)]
  exact if_neg (by simp; omega)

end Sys2Proof.Proofs.FdcRegisters
end

section
/-! Lazy execution (62_fdc.md R1142 to R1148): what a status read of a command in flight leaves of the controller. -/

namespace Sys2Proof.Proofs.FdcTransfer
open Sys2Proof Sys2Proof.Machine Sys2Proof.Proofs.FdcStatus Sys2Proof.Proofs.RawTrack Sys2Proof.Proofs.FdcRegisters

/-! ### The three forms the controller can be left in

`Looked` while the disk has been asked and nothing else done; then the command is over, or a transfer is armed. -/

/-- Only the ID field kept and the disk may have changed. -/
def Looked (f g : Fdc) (id : FoundId) : Prop := ∃ disk, g = { f with id := id, disk := disk }

/-- The command is over with status bits `st`. -/
def Ended (f g : Fdc) (st : Byte) (id : FoundId) : Prop :=
  ∃ disk, g = { f with status := (f.status ||| st) &&& 0xFE#8, id := id, disk := disk }

/-- A transfer of `len` bytes is armed: `held` is the data status held back, `shown` the status bits shown at once. -/
def Armed (f g : Fdc) (buf : List Byte) (len : Nat) (held shown : Byte) (id : FoundId) : Prop :=
  ∃ disk, g =
    { f with
      buf := buf, bufLen := len, bufPos := 0, dataStatus := held, status := f.status ||| 0x02#8 ||| shown, id := id, disk := disk }

section
variable {f : Fdc} {s t : State} {id : FoundId}

theorem Looked.of_onlyDisk (h : OnlyDisk s t) : Looked s.fdc t.fdc s.fdc.id := ⟨_, h.fdc⟩

theorem Looked.trans_onlyDisk (h : Looked f s.fdc id) (k : OnlyDisk s t) : Looked f t.fdc id := by
  obtain ⟨disk, hs⟩ := h
  exact ⟨t.fdc.disk, by rw [k.fdc, hs]⟩

theorem Looked.setFoundId (h : Looked f s.fdc id) (field : IdField) (c : Word) :
    Looked f (setFoundId field c s).fdc (foundId field c) := by
  obtain ⟨disk, hs⟩ := h
  exact ⟨disk, by simp [Machine.setFoundId, hs]⟩

theorem Looked.endCommand (h : Looked f s.fdc id) (st : Byte) : Ended f (endCommand st s).fdc st id := by
  obtain ⟨disk, hs⟩ := h
  exact ⟨disk, by simp [Machine.endCommand, setStatus, stBusy, hs]⟩

theorem Looked.armTransfer (h : Looked f s.fdc id) (len : Nat) (held : Byte) :
    Armed f (armTransfer len held s).fdc f.buf len held 0#8 id := by
  obtain ⟨disk, hs⟩ := h
  exact ⟨disk, by simp [Machine.armTransfer, orStatus, setStatus, stDrq, hs]⟩

theorem Looked.armRead (h : Looked f s.fdc id) (bytes : List Byte) (held shown : Byte) :
    Armed f (armRead bytes held (orStatus shown s)).fdc bytes bytes.length held shown id := by
  obtain ⟨disk, hs⟩ := h
  have hstatus : f.status ||| shown ||| 0x02#8 = f.status ||| 0x02#8 ||| shown := by
    rw [BitVec.or_assoc, BitVec.or_comm shown, ← BitVec.or_assoc]
  exact ⟨disk, by simp [Machine.armRead, Machine.armTransfer, orStatus, setStatus, stDrq, hs, hstatus]⟩

end

section
variable {f g : Fdc} {st : Byte} {id : FoundId}

theorem Ended.cmd (h : Ended f g st id) : g.cmd = f.cmd := by
  obtain ⟨_, rfl⟩ := h
  rfl

theorem Ended.drq (h : Ended f g st id) (hst : st.getLsbD 1 = false) : g.status.getLsbD 1 = f.status.getLsbD 1 := by
  obtain ⟨_, rfl⟩ := h
  have hbit : st[1] = false := hst
  simp [hbit]

theorem Ended.not_drq (h : Ended f g st id) (hst : st.getLsbD 1 = false) (hf : f.status.getLsbD 1 = false) :
    ¬g.status.getLsbD 1 = true := by
  rw [h.drq hst, hf]
  decide

theorem Armed.cmd {buf : List Byte} {len : Nat} {held shown : Byte} (h : Armed f g buf len held shown id) : g.cmd = f.cmd := by
  obtain ⟨_, rfl⟩ := h
  rfl

end

/-! ### The iterator of the reference disk (R1106) -/

/-- The reference disk is in the drive, its iterator with `ahead` still to return after the sector `last`. -/
def Iterates (s : State) (ahead : List Sector) (last : Option Sector) : Prop :=
  ∃ e, s.fdc.disk = some (.image e) ∧ e.cur.drop e.pos = ahead ∧ imageLast e = last

/-- The sectors of the track under the head. -/
abbrev sectorsOf (s : State) (d : DiskImage) : List Sector := (findTrack (headKey s) d.tracks).getD []

/-- The answer of `ReadData` on a sector of the reference disk. -/
def sectorAnswer (x : Sector) : List Byte × Byte :=
  if x.hasData then (x.data, statusBit x.dataCrcErr stCrcError ||| statusBit x.deleted stDeletedData) else ([], stRecordNotFound)

section
variable {s : State} {d : DiskImage} {x : Sector} {rest : List Sector} {last : Option Sector}

theorem diskFindInit_iterates (h : s.fdc.disk = some (.image d)) : Iterates (diskFindInit s).2 (sectorsOf s d) none := by
  have hinit : (diskFindInit s).2.fdc.disk = some (.image (imageFindInit (headKey s) d).2) := by
    simp [diskFindInit, h, rawAnswer, Disk.findInit, setDisk]
  refine ⟨_, hinit, ?_⟩
  unfold imageFindInit
  split
  · next ss hss => simp [sectorsOf, hss, imageLast]
  · next hss => simp [sectorsOf, hss, imageLast]

/-- `FindInit` answers false of a track without sectors only. -/
theorem sectorsOf_eq_nil (h : s.fdc.disk = some (.image d)) (hinit : (diskFindInit s).1 = false) : sectorsOf s d = [] := by
  have hfound : (imageFindInit (headKey s) d).1 = false := by simpa [diskFindInit, h, rawAnswer, Disk.findInit] using hinit
  unfold imageFindInit at hfound
  split at hfound
  · simp at hfound
  · next hss => simp [sectorsOf, hss]

theorem diskFindNext_of_end (h : Iterates s [] last) : (diskFindNext s).1 = none := by
  obtain ⟨e, hdisk, hahead, -⟩ := h
  have hnone : e.cur[e.pos]? = none := List.getElem?_eq_none (List.drop_eq_nil_iff.mp hahead)
  simp [diskFindNext, hdisk, Disk.findNext, imageFindNext, hnone]

theorem diskFindNext_of_ahead (h : Iterates s (x :: rest) last) :
    (diskFindNext s).1 = some (x.id, statusBit x.idCrcErr stCrcError) ∧ Iterates (diskFindNext s).2 rest (some x) := by
  obtain ⟨e, hdisk, hahead, -⟩ := h
  have hx : e.cur[e.pos]? = some x := by rw [← List.head?_drop, hahead]; rfl
  have hrest : e.cur.drop (e.pos + 1) = rest := by rw [← List.tail_drop, hahead]; rfl
  have hnext : diskFindNext s = (some (x.id, statusBit x.idCrcErr stCrcError),
      setDisk (some (.image { e with last := some e.pos, pos := e.pos + 1 })) s) := by
    simp [diskFindNext, hdisk, Disk.findNext, imageFindNext, hx, rawAnswer]
  rw [hnext]
  exact ⟨rfl, _, rfl, hrest, hx⟩

theorem diskReadData_of_last (h : Iterates s rest (some x)) : diskReadData s = (sectorAnswer x, s) := by
  obtain ⟨e, hdisk, -, hlast⟩ := h
  simp [diskReadData, hdisk, Disk.readData, imageReadData, hlast, sectorAnswer, rawAnswer]

theorem length_lt_scanBound (h : Iterates s rest last) : rest.length < scanBound s := by
  obtain ⟨e, hdisk, hahead, -⟩ := h
  simp [scanBound, hdisk, Disk.scanBound, ← hahead]

theorem Iterates.setFoundId (h : Iterates s rest last) (field : IdField) (c : Word) : Iterates (setFoundId field c s) rest last := h

end

/-! ### The sector search (R1145) -/

section
variable {n : Nat} {crcSeen : Bool} {s : State}

theorem scanSector_of_end (h : (diskFindNext s).1 = none) : scanSector (n + 1) crcSeen s = ((none, crcSeen), (diskFindNext s).2) := by
  simp [scanSector, h]

theorem scanSector_of_next {id : IdField} {st : Byte} (h : (diskFindNext s).1 = some (id, st)) :
    scanSector (n + 1) crcSeen s =
      if id.track = s.fdc.track ∧ id.sector = s.fdc.sector then
        if st &&& stCrcError = 0#8 then ((some id, crcSeen), (diskFindNext s).2) else scanSector n true (diskFindNext s).2
      else scanSector n crcSeen (diskFindNext s).2 := by
  have hfdc := (onlyDisk_diskFindNext s).fdc
  have htrack : (diskFindNext s).2.fdc.track = s.fdc.track := by rw [hfdc]
  have hsector : (diskFindNext s).2.fdc.sector = s.fdc.sector := by rw [hfdc]
  simp [scanSector, h, htrack, hsector]

end

theorem onlyDisk_scanSector (fuel : Nat) (crcSeen : Bool) (s : State) : OnlyDisk s (scanSector fuel crcSeen s).2 := by
  induction fuel generalizing crcSeen s with
  | zero => exact .refl s
  | succ n ih =>
    have hnext := onlyDisk_diskFindNext s
    cases h : (diskFindNext s).1 with
    | none => exact scanSector_of_end h ▸ hnext
    | some found =>
      rw [scanSector_of_next h]
      split_ifs
      · exact hnext
      · exact hnext.trans (ih ..)
      · exact hnext.trans (ih ..)

/-- The ID a search has found: the one asked for, and the one a free disk reads from next. -/
structure Found (s : State) (id : IdField) (t : State) : Prop where
  onlyDisk : OnlyDisk s t
  track : id.track = s.fdc.track
  sector : id.sector = s.fdc.sector
  last : ∀ d, t.fdc.disk = some (.device d) → d.last = some id

theorem Found.of_onlyDisk {s t u : State} {id : IdField} (h : OnlyDisk s t) (k : Found t id u) : Found s id u :=
  ⟨h.trans k.onlyDisk, by rw [k.track, h.fdc], by rw [k.sector, h.fdc], k.last⟩

theorem found_of_scanSector {fuel : Nat} {crcSeen : Bool} {s : State} {id : IdField} (hid : (scanSector fuel crcSeen s).1.1 = some id) :
    Found s id (scanSector fuel crcSeen s).2 := by
  induction fuel generalizing crcSeen s with
  | zero => simp [scanSector] at hid
  | succ n ih =>
    have hnext := onlyDisk_diskFindNext s
    cases h : (diskFindNext s).1 with
    | none => simp [scanSector_of_end h] at hid
    | some found =>
      rw [scanSector_of_next h] at hid ⊢
      split_ifs at hid ⊢ with hasked hcrc
      · obtain rfl : found.1 = id := by simpa using hid
        exact ⟨hnext, hasked.1, hasked.2, fun d hd => diskFindNext_last h d hd⟩
      · exact .of_onlyDisk hnext (ih hid)
      · exact .of_onlyDisk hnext (ih hid)

/-- One turn of the scan on the reference disk. -/
theorem scanSector_of_ahead {y : Sector} {rest : List Sector} {last : Option Sector} {s : State} (h : Iterates s (y :: rest) last) (n : Nat)
    (crcSeen : Bool) :
    scanSector (n + 1) crcSeen s =
      if matchesId s.fdc y && !y.idCrcErr then ((some y.id, crcSeen), (diskFindNext s).2)
      else scanSector n (crcSeen || matchesId s.fdc y) (diskFindNext s).2 := by
  have hasked : (y.id.track = s.fdc.track ∧ y.id.sector = s.fdc.sector) = (matchesId s.fdc y = true) := by simp [matchesId]
  have hgood : (statusBit y.idCrcErr stCrcError &&& stCrcError = 0#8) = (y.idCrcErr = false) := by
    cases y.idCrcErr <;> simp [statusBit, stCrcError]
  simp only [scanSector_of_next (diskFindNext_of_ahead h).1, hasked, hgood]
  cases matchesId s.fdc y <;> cases y.idCrcErr <;> simp

/-- On the reference disk the scan stops at the first sector asked for whose ID is good. -/
theorem scanSector_of_find {ahead : List Sector} {last : Option Sector} {s : State} {x : Sector} (h : Iterates s ahead last)
    (hx : ahead.find? (fun y => matchesId s.fdc y && !y.idCrcErr) = some x) {fuel : Nat} (hfuel : ahead.length < fuel) (crcSeen : Bool) :
    (scanSector fuel crcSeen s).1.1 = some x.id ∧ ∃ rest, Iterates (scanSector fuel crcSeen s).2 rest (some x) := by
  induction ahead generalizing s last fuel crcSeen with
  | nil => simp at hx
  | cons y rest ih =>
    obtain ⟨n, rfl⟩ : ∃ n, fuel = n + 1 := ⟨fuel - 1, by omega⟩
    obtain ⟨-, hiter⟩ := diskFindNext_of_ahead h
    have hmatches : matchesId (diskFindNext s).2.fdc = matchesId s.fdc := by rw [(onlyDisk_diskFindNext s).fdc]; rfl
    rw [scanSector_of_ahead h]
    rw [List.find?_cons] at hx
    cases hstop : matchesId s.fdc y && !y.idCrcErr with
    | true =>
      obtain rfl : y = x := by simpa [hstop] using hx
      exact ⟨rfl, rest, hiter⟩
    | false =>
      have hrest : rest.find? (fun y => matchesId (diskFindNext s).2.fdc y && !y.idCrcErr) = some x := by
        simpa [hstop, hmatches] using hx
      exact ih hiter hrest (Nat.lt_of_succ_lt_succ hfuel) _

/-- What the search answers: with no match the command is over. -/
theorem findSector_cases (s : State) :
    (∃ t st, st.getLsbD 1 = false ∧ OnlyDisk s t ∧ findSector s = (none, endCommand st t)) ∨
      ∃ t id, Found s id t ∧ findSector s = (some id, t) := by
  have hinit := onlyDisk_diskFindInit s
  have hst : ∀ b, (stRecordNotFound ||| statusBit b stCrcError).getLsbD 1 = false := by decide
  unfold findSector
  simp only
  cases (diskFindInit s).1 with
  | false => exact .inl ⟨_, _, hst _, hinit, rfl⟩
  | true =>
    simp only [if_true]
    have hscan := onlyDisk_scanSector (scanBound (diskFindInit s).2) false (diskFindInit s).2
    split
    · next id hid => exact .inr ⟨_, id, .of_onlyDisk hinit (found_of_scanSector hid), rfl⟩
    · exact .inl ⟨_, _, hst _, hinit.trans hscan, rfl⟩

/-- On the reference disk the search takes the track's first sector asked for whose ID is good, and leaves the iterator on it. -/
theorem findSector_of_find {s : State} {d : DiskImage} {x : Sector} (hdisk : s.fdc.disk = some (.image d))
    (hx : (sectorsOf s d).find? (fun y => matchesId s.fdc y && !y.idCrcErr) = some x) :
    ∃ t rest, OnlyDisk s t ∧ Iterates t rest (some x) ∧ findSector s = (some x.id, t) := by
  have hinit := onlyDisk_diskFindInit s
  have hiter := diskFindInit_iterates hdisk
  have hyes : (diskFindInit s).1 = true := by
    by_contra hno
    rw [sectorsOf_eq_nil hdisk (by simpa using hno)] at hx
    simp at hx
  have hmatches : matchesId (diskFindInit s).2.fdc = matchesId s.fdc := by rw [hinit.fdc]; rfl
  obtain ⟨hid, rest, hrest⟩ := scanSector_of_find hiter (hmatches ▸ hx) (length_lt_scanBound hiter) false
  exact ⟨_, rest, hinit.trans (onlyDisk_scanSector ..), hrest, by simp [findSector, hyes, hid]⟩

/-! ### READ and WRITE (R1143, R1144) -/

section
variable {s t : State} {id : IdField}

theorem execRead_of_not_found (h : findSector s = (none, t)) : execRead s = t := by
  simp [execRead, h]

theorem execRead_of_found (h : findSector s = (some id, t)) :
    execRead s =
      let r := diskReadData (setFoundId id (idCrc id) t)
      if r.1.2 &&& stRecordNotFound = 0#8 then armRead r.1.1 (r.1.2 &&& stCrcError) (orStatus (r.1.2 &&& stDeletedData) r.2)
      else endCommand stRecordNotFound r.2 := by
  simp [execRead, h]

theorem execWrite_of_not_found (h : findSector s = (none, t)) : execWrite s = t := by
  simp [execWrite, h]

theorem execWrite_of_found (h : findSector s = (some id, t)) :
    execWrite s = armTransfer (Config.sectorSize id.size) 0#8 (setFoundId id (idCrc id) t) := by
  simp [execWrite, h]

/-- A free disk answers with as many bytes as the sector read has (R1105). -/
theorem length_diskReadData_of_device {d : DiskDevice} (hdisk : s.fdc.disk = some (.device d)) (hlast : d.last = some id)
    (hok : (diskReadData s).1.2 &&& stRecordNotFound = 0#8) : (diskReadData s).1.1.length = Config.sectorSize id.size := by
  simp only [diskReadData, hdisk, Disk.readData, hlast] at hok ⊢
  rw [if_pos hok]
  simp [padTo]

/-- READ ends in error, or arms what the disk answered of an ID that was asked for. -/
theorem execRead_cases (s : State) :
    (∃ st id, st.getLsbD 1 = false ∧ Ended s.fdc (execRead s).fdc st id) ∨
      ∃ id bytes held shown, (id.track = s.fdc.track ∧ id.sector = s.fdc.sector) ∧
        Armed s.fdc (execRead s).fdc bytes bytes.length held shown (foundId id (idCrc id)) ∧
        ∀ d, s.fdc.disk = some (.device d) → bytes.length = Config.sectorSize id.size := by
  obtain ⟨t, st, hst, ht, hfind⟩ | ⟨t, id, hfound, hfind⟩ := findSector_cases s
  · exact .inl ⟨st, _, hst, execRead_of_not_found hfind ▸ (Looked.of_onlyDisk ht).endCommand st⟩
  · have hlooked := ((Looked.of_onlyDisk hfound.onlyDisk).setFoundId id (idCrc id)).trans_onlyDisk
      (onlyDisk_diskReadData (setFoundId id (idCrc id) t))
    rw [execRead_of_found hfind]
    simp only
    split_ifs with hok
    · refine .inr ⟨id, _, _, _, ⟨hfound.track, hfound.sector⟩, hlooked.armRead _ _ _, fun d hd => ?_⟩
      obtain ⟨e, he⟩ := hfound.onlyDisk.free ⟨d, hd⟩
      exact length_diskReadData_of_device he (hfound.last e he) hok
    · exact .inl ⟨_, _, by decide, hlooked.endCommand _⟩

/-- WRITE ends in error, or arms a transfer of the size of an ID that was asked for. -/
theorem execWrite_cases (s : State) :
    (∃ st id, st.getLsbD 1 = false ∧ Ended s.fdc (execWrite s).fdc st id) ∨
      ∃ id, (id.track = s.fdc.track ∧ id.sector = s.fdc.sector) ∧
        Armed s.fdc (execWrite s).fdc s.fdc.buf (Config.sectorSize id.size) 0#8 0#8 (foundId id (idCrc id)) := by
  obtain ⟨t, st, hst, ht, hfind⟩ | ⟨t, id, hfound, hfind⟩ := findSector_cases s
  · exact .inl ⟨st, _, hst, execWrite_of_not_found hfind ▸ (Looked.of_onlyDisk ht).endCommand st⟩
  · have hlooked := (Looked.of_onlyDisk hfound.onlyDisk).setFoundId id (idCrc id)
    exact .inr ⟨id, ⟨hfound.track, hfound.sector⟩, execWrite_of_found hfind ▸ hlooked.armTransfer _ _⟩

end

/-- On the reference disk READ arms the sector's own bytes (R1143). -/
theorem execRead_of_find {s : State} {d : DiskImage} {x : Sector} (hdisk : s.fdc.disk = some (.image d))
    (hx : (sectorsOf s d).find? (fun y => matchesId s.fdc y && !y.idCrcErr) = some x) (hdata : x.hasData = true) :
    Armed s.fdc (execRead s).fdc x.data x.data.length (statusBit x.dataCrcErr stCrcError) (statusBit x.deleted stDeletedData)
      (foundId x.id (idCrc x.id)) := by
  obtain ⟨t, rest, ht, hiter, hfind⟩ := findSector_of_find hdisk hx
  have hlooked := (Looked.of_onlyDisk ht).setFoundId x.id (idCrc x.id)
  have hbits : ∀ b c, (statusBit b stCrcError ||| statusBit c stDeletedData) &&& stRecordNotFound = 0#8 ∧
      (statusBit b stCrcError ||| statusBit c stDeletedData) &&& stCrcError = statusBit b stCrcError ∧
      (statusBit b stCrcError ||| statusBit c stDeletedData) &&& stDeletedData = statusBit c stDeletedData := by decide
  obtain ⟨hok, hcrc, hdeleted⟩ := hbits x.dataCrcErr x.deleted
  rw [execRead_of_found hfind, diskReadData_of_last (hiter.setFoundId _ _), sectorAnswer, if_pos hdata]
  simp only [hok, hcrc, hdeleted, if_true]
  exact hlooked.armRead _ _ _

/-- An ID without a data field ends it (R1143). -/
theorem execRead_of_find_no_data {s : State} {d : DiskImage} {x : Sector} (hdisk : s.fdc.disk = some (.image d))
    (hx : (sectorsOf s d).find? (fun y => matchesId s.fdc y && !y.idCrcErr) = some x) (hdata : x.hasData = false) :
    Ended s.fdc (execRead s).fdc stRecordNotFound (foundId x.id (idCrc x.id)) := by
  obtain ⟨t, rest, ht, hiter, hfind⟩ := findSector_of_find hdisk hx
  have hlooked := (Looked.of_onlyDisk ht).setFoundId x.id (idCrc x.id)
  have hanswer : sectorAnswer x = ([], stRecordNotFound) := if_neg (by simp [hdata])
  rw [execRead_of_found hfind, diskReadData_of_last (hiter.setFoundId _ _), hanswer]
  simp only [show ¬stRecordNotFound &&& stRecordNotFound = 0#8 by decide, if_false]
  exact hlooked.endCommand _

/-- On the reference disk WRITE arms a transfer of the sector's size (R1144). -/
theorem execWrite_of_find {s : State} {d : DiskImage} {x : Sector} (hdisk : s.fdc.disk = some (.image d))
    (hx : (sectorsOf s d).find? (fun y => matchesId s.fdc y && !y.idCrcErr) = some x) :
    Armed s.fdc (execWrite s).fdc s.fdc.buf (Config.sectorSize x.id.size) 0#8 0#8 (foundId x.id (idCrc x.id)) := by
  obtain ⟨t, rest, ht, -, hfind⟩ := findSector_of_find hdisk hx
  exact execWrite_of_found hfind ▸ ((Looked.of_onlyDisk ht).setFoundId _ _).armTransfer _ _

/-! ### READ_ADDRESS (R1146) -/

theorem orStatus_zero (s : State) : orStatus 0#8 s = s := by
  simp [orStatus, setStatus, State.mapFdc]

/-- The CRC kept of an ID: inverted where the ID's is bad. -/
def addressCrc (id : IdField) (st : Byte) : Word := if st &&& stCrcError = 0#8 then idCrc id else idCrc id ^^^ 0xFFFF#16

section
variable {s : State}

theorem execReadAddress_of_not_found (h : (diskFindInit s).1 = true → (diskFindNext (diskFindInit s).2).1 = none) :
    Ended s.fdc (execReadAddress s).fdc stRecordNotFound s.fdc.id := by
  have hinit := onlyDisk_diskFindInit s
  cases hyes : (diskFindInit s).1 with
  | false =>
    have heq : execReadAddress s = endCommand stRecordNotFound (diskFindInit s).2 := by simp [execReadAddress, hyes]
    exact heq ▸ (Looked.of_onlyDisk hinit).endCommand _
  | true =>
    have heq : execReadAddress s = endCommand stRecordNotFound (diskFindNext (diskFindInit s).2).2 := by
      simp [execReadAddress, hyes, h hyes]
    exact heq ▸ (Looked.of_onlyDisk (hinit.trans (onlyDisk_diskFindNext _))).endCommand _

theorem execReadAddress_of_found (hyes : (diskFindInit s).1 = true) {id : IdField} {st : Byte}
    (h : (diskFindNext (diskFindInit s).2).1 = some (id, st)) :
    Armed s.fdc (execReadAddress s).fdc (foundIdBytes (foundId id (addressCrc id st))) 6 (st &&& stCrcError) 0#8
      (foundId id (addressCrc id st)) := by
  have hlooked := (Looked.of_onlyDisk ((onlyDisk_diskFindInit s).trans (onlyDisk_diskFindNext _))).setFoundId id (addressCrc id st)
  have heq : execReadAddress s = armRead (foundIdBytes (foundId id (addressCrc id st))) (st &&& stCrcError)
      (orStatus 0#8 (setFoundId id (addressCrc id st) (diskFindNext (diskFindInit s).2).2)) := by
    simp [execReadAddress, hyes, h, orStatus_zero, addressCrc]
  exact heq ▸ hlooked.armRead _ _ _

/-- On the reference disk it ends in error where the track has no sector. -/
theorem execReadAddress_of_no_sector {d : DiskImage} (hdisk : s.fdc.disk = some (.image d)) (h : sectorsOf s d = []) :
    Ended s.fdc (execReadAddress s).fdc stRecordNotFound s.fdc.id :=
  execReadAddress_of_not_found fun _ => diskFindNext_of_end (h ▸ diskFindInit_iterates hdisk)

theorem addressCrc_statusBit (id : IdField) (bad : Bool) :
    addressCrc id (statusBit bad stCrcError) = idCrc id ^^^ if bad then 0xFFFF#16 else 0#16 := by
  cases bad <;> simp [addressCrc, statusBit, stCrcError]

/-- Else it arms the track's first ID, its CRC inverted where the ID is bad. -/
theorem execReadAddress_of_first_sector {d : DiskImage} {x : Sector} {rest : List Sector} (hdisk : s.fdc.disk = some (.image d))
    (h : sectorsOf s d = x :: rest) :
    let id := foundId x.id (idCrc x.id ^^^ if x.idCrcErr then 0xFFFF#16 else 0#16)
    Armed s.fdc (execReadAddress s).fdc (foundIdBytes id) 6 (statusBit x.idCrcErr stCrcError) 0#8 id := by
  have hyes : (diskFindInit s).1 = true := by
    by_contra hno
    rw [sectorsOf_eq_nil hdisk (by simpa using hno)] at h
    contradiction
  have hheld : statusBit x.idCrcErr stCrcError &&& stCrcError = statusBit x.idCrcErr stCrcError := by cases x.idCrcErr <;> decide
  have harmed := execReadAddress_of_found hyes (diskFindNext_of_ahead (h ▸ diskFindInit_iterates hdisk)).1
  rwa [addressCrc_statusBit, hheld] at harmed

/-- READ_ADDRESS ends in error, or arms the six bytes of the ID kept. -/
theorem execReadAddress_cases (s : State) :
    Ended s.fdc (execReadAddress s).fdc stRecordNotFound s.fdc.id ∨
      ∃ id held, Armed s.fdc (execReadAddress s).fdc (foundIdBytes id) 6 held 0#8 id := by
  by_cases h : (diskFindInit s).1 = true → (diskFindNext (diskFindInit s).2).1 = none
  · exact .inl (execReadAddress_of_not_found h)
  · obtain ⟨hyes, hsome⟩ := Classical.not_imp.mp h
    obtain ⟨⟨id, st⟩, hnext⟩ := Option.ne_none_iff_exists'.mp hsome
    exact .inr ⟨_, _, execReadAddress_of_found hyes hnext⟩

/-! ### READ_TRACK and WRITE_TRACK (R1147, R1148) -/

/-- The sectors READ_TRACK reads off the track, and the machine after. -/
def trackRead (s : State) : List TrackSector × State :=
  if (diskFindInit s).1 then scanTrack (scanBound (diskFindInit s).2) (diskFindInit s).2 else ([], (diskFindInit s).2)

theorem onlyDisk_scanTrack (fuel : Nat) (s : State) : OnlyDisk s (scanTrack fuel s).2 := by
  induction fuel generalizing s with
  | zero => exact .refl s
  | succ n ih =>
    have hnext := onlyDisk_diskFindNext s
    simp only [scanTrack]
    split
    · exact hnext
    · exact (hnext.trans (onlyDisk_diskReadData _)).trans (ih _)

theorem onlyDisk_trackRead (s : State) : OnlyDisk s (trackRead s).2 := by
  unfold trackRead
  split
  · exact (onlyDisk_diskFindInit s).trans (onlyDisk_scanTrack ..)
  · exact onlyDisk_diskFindInit s

theorem execReadTrack_armed (s : State) :
    Armed s.fdc (execReadTrack s).fdc (rawTrack (trackRead s).1) 6250 0#8 0#8 s.fdc.id := by
  have heq : execReadTrack s = armRead (rawTrack (trackRead s).1) 0#8 (orStatus 0#8 (trackRead s).2) := by
    rw [orStatus_zero]; rfl
  have harmed := (Looked.of_onlyDisk (onlyDisk_trackRead s)).armRead (rawTrack (trackRead s).1) 0#8 0#8
  rwa [← heq, rawTrack_length] at harmed

theorem execWriteTrack_armed (s : State) : Armed s.fdc (execWriteTrack s).fdc s.fdc.buf 6250 0#8 0#8 s.fdc.id :=
  (Looked.of_onlyDisk (.refl s)).armTransfer 6250 0#8

/-- A sector of the reference disk as READ_TRACK reads it. -/
def trackSector (x : Sector) : TrackSector :=
  { id := x.id, idStatus := statusBit x.idCrcErr stCrcError, data := (sectorAnswer x).1, dataStatus := (sectorAnswer x).2 }

theorem scanTrack_of_iterates {ahead : List Sector} {last : Option Sector} {s : State} (h : Iterates s ahead last) {fuel : Nat}
    (hfuel : ahead.length < fuel) : (scanTrack fuel s).1 = ahead.map trackSector := by
  induction ahead generalizing s last fuel with
  | nil =>
    obtain ⟨n, rfl⟩ : ∃ n, fuel = n + 1 := ⟨fuel - 1, by omega⟩
    simp [scanTrack, diskFindNext_of_end h]
  | cons x rest ih =>
    obtain ⟨n, rfl⟩ : ∃ n, fuel = n + 1 := ⟨fuel - 1, by omega⟩
    obtain ⟨hx, hiter⟩ := diskFindNext_of_ahead h
    have hrest := ih hiter (Nat.lt_of_succ_lt_succ hfuel)
    simp [scanTrack, hx, diskReadData_of_last hiter, hrest, trackSector]

theorem trackSector_eq (x : Sector) :
    trackSector x =
      if x.hasData then
        ⟨x.id, statusBit x.idCrcErr stCrcError, x.data, statusBit x.dataCrcErr stCrcError ||| statusBit x.deleted stDeletedData⟩
      else ⟨x.id, statusBit x.idCrcErr stCrcError, [], stRecordNotFound⟩ := by
  unfold trackSector sectorAnswer
  split <;> rfl

/-- On the reference disk READ_TRACK reads every sector of the track. -/
theorem trackRead_of_image {d : DiskImage} (hdisk : s.fdc.disk = some (.image d)) : (trackRead s).1 = (sectorsOf s d).map trackSector := by
  have hiter := diskFindInit_iterates hdisk
  unfold trackRead
  split_ifs with hyes
  · exact scanTrack_of_iterates hiter (length_lt_scanBound hiter)
  · rw [sectorsOf_eq_nil hdisk (by simpa using hyes)]
    rfl

end

/-! ### A command in flight (R1142) -/

/-- The dispatch of `ExecuteNext`, once the disk is not busy. -/
def execCommand (s : State) : State :=
  if s.fdc.cmd = 0x80#8 ∨ s.fdc.cmd = 0x90#8 then execRead s
  else if s.fdc.cmd = 0xA0#8 ∨ s.fdc.cmd = 0xB0#8 then execWrite s
  else if s.fdc.cmd = 0xC0#8 then execReadAddress s
  else if s.fdc.cmd = 0xE0#8 then execReadTrack s
  else if s.fdc.cmd = 0xF0#8 then execWriteTrack s
  else s

section
variable {s : State}

theorem execCommand_read (h : s.fdc.cmd = 0x80#8 ∨ s.fdc.cmd = 0x90#8) : execCommand s = execRead s := if_pos h

theorem execCommand_write (h : s.fdc.cmd = 0xA0#8 ∨ s.fdc.cmd = 0xB0#8) : execCommand s = execWrite s := by
  obtain h | h := h <;> simp [execCommand, h]

theorem execCommand_readAddress (h : s.fdc.cmd = 0xC0#8) : execCommand s = execReadAddress s := by
  simp [execCommand, h]

theorem execCommand_readTrack (h : s.fdc.cmd = 0xE0#8) : execCommand s = execReadTrack s := by
  simp [execCommand, h]

theorem execCommand_writeTrack (h : s.fdc.cmd = 0xF0#8) : execCommand s = execWriteTrack s := by
  simp [execCommand, h]

/-- Whatever the command, it ends in error, arms a transfer or is none of those that run on. -/
theorem execCommand_cases (s : State) :
    (∃ st id, st.getLsbD 1 = false ∧ Ended s.fdc (execCommand s).fdc st id) ∨
      (∃ buf len held shown id, Armed s.fdc (execCommand s).fdc buf len held shown id) ∨ execCommand s = s := by
  unfold execCommand
  split_ifs
  · obtain h | ⟨id, bytes, held, shown, -, h, -⟩ := execRead_cases s
    · exact .inl h
    · exact .inr (.inl ⟨_, _, _, _, _, h⟩)
  · obtain h | ⟨id, -, h⟩ := execWrite_cases s
    · exact .inl h
    · exact .inr (.inl ⟨_, _, _, _, _, h⟩)
  · obtain h | ⟨id, held, h⟩ := execReadAddress_cases s
    · exact .inl ⟨_, _, by decide, h⟩
    · exact .inr (.inl ⟨_, _, _, _, _, h⟩)
  · exact .inr (.inl ⟨_, _, _, _, _, execReadTrack_armed s⟩)
  · exact .inr (.inl ⟨_, _, _, _, _, execWriteTrack_armed s⟩)
  · exact .inr (.inr rfl)

theorem diskIsBusy_fdc (s : State) : (diskIsBusy s).2.fdc = s.fdc := by
  unfold diskIsBusy
  split
  · rfl
  · next d _ => cases d <;> rfl

/-- No status of a busy disk is DRQ (log entry 14). -/
theorem diskIsBusy_drq (s : State) : (diskIsBusy s).1.2.getLsbD 1 = false := by
  unfold diskIsBusy
  split
  · exact (by decide : stRecordNotFound.getLsbD 1 = false)
  · next d _ => cases d <;> simp [Disk.isBusy, stCrcError, stRecordNotFound, stDeletedData, stWriteProtect]

/-- The controller as the dispatch finds it. -/
abbrev startedFdc (f : Fdc) : Fdc := { f with state := f.state + 1 }

theorem executeNext_of_disk {d : Disk} (hdisk : s.fdc.disk = some d) :
    executeNext s =
      if (diskIsBusy s).1.1 then (diskIsBusy s).2
      else if (diskIsBusy s).1.2 ≠ 0#8 then endCommand (diskIsBusy s).1.2 (diskIsBusy s).2
      else execCommand ((diskIsBusy s).2.mapFdc startedFdc) := by
  simp only [executeNext, hdisk]
  rfl

/-- What a command in flight runs into: an error of the disk, a busy disk, or its own part. -/
theorem executeNext_cases (s : State) :
    (∃ st, st.getLsbD 1 = false ∧ Ended s.fdc (executeNext s).fdc st s.fdc.id) ∨ (executeNext s).fdc = s.fdc ∨
      ∃ t, t.fdc = startedFdc s.fdc ∧ executeNext s = execCommand t := by
  cases hdisk : s.fdc.disk with
  | none =>
    have heq : executeNext s = endCommand stRecordNotFound s := by simp [executeNext, hdisk]
    exact .inl ⟨_, by decide, heq ▸ (Looked.of_onlyDisk (.refl s)).endCommand _⟩
  | some d =>
    rw [executeNext_of_disk hdisk]
    split_ifs
    · exact .inr (.inl (diskIsBusy_fdc s))
    · exact .inl ⟨_, diskIsBusy_drq s, (Looked.of_onlyDisk (onlyDisk_diskIsBusy s)).endCommand _⟩
    · exact .inr (.inr ⟨_, by rw [State.mapFdc_fdc, diskIsBusy_fdc], rfl⟩)

/-- The reference disk is never busy. -/
theorem executeNext_of_image {d : DiskImage} (hdisk : s.fdc.disk = some (.image d)) :
    executeNext s = execCommand (s.mapFdc startedFdc) := by
  have hidle : diskIsBusy s = ((false, 0#8), s) := by simp [diskIsBusy, hdisk, Disk.isBusy, rawAnswer]
  simp [executeNext_of_disk hdisk, hidle]

theorem executeNext_cmd (s : State) : (executeNext s).fdc.cmd = s.fdc.cmd := by
  obtain ⟨st, -, hended⟩ | hbusy | ⟨t, ht, heq⟩ := executeNext_cases s
  · exact hended.cmd
  · rw [hbusy]
  · have hcmd : (execCommand t).fdc.cmd = t.fdc.cmd := by
      obtain ⟨st, id, -, h⟩ | ⟨buf, len, held, shown, id, h⟩ | h := execCommand_cases t
      · exact h.cmd
      · exact h.cmd
      · rw [h]
    rw [heq, hcmd, ht]

/-! ### What a command has armed once DRQ is set -/

section
variable (hidle : s.fdc.status.getLsbD 1 = false)
include hidle

theorem execRead_of_drq (h : (execRead s).fdc.status.getLsbD 1 = true) :
    ∃ id bytes held shown, (id.track = s.fdc.track ∧ id.sector = s.fdc.sector) ∧
      Armed s.fdc (execRead s).fdc bytes bytes.length held shown (foundId id (idCrc id)) ∧
      ∀ d, s.fdc.disk = some (.device d) → bytes.length = Config.sectorSize id.size :=
  (execRead_cases s).resolve_left fun ⟨_, _, hst, hended⟩ => hended.not_drq hst hidle h

theorem execWrite_of_drq (h : (execWrite s).fdc.status.getLsbD 1 = true) :
    ∃ id, (id.track = s.fdc.track ∧ id.sector = s.fdc.sector) ∧
      Armed s.fdc (execWrite s).fdc s.fdc.buf (Config.sectorSize id.size) 0#8 0#8 (foundId id (idCrc id)) :=
  (execWrite_cases s).resolve_left fun ⟨_, _, hst, hended⟩ => hended.not_drq hst hidle h

theorem execReadAddress_of_drq (h : (execReadAddress s).fdc.status.getLsbD 1 = true) :
    ∃ id held, Armed s.fdc (execReadAddress s).fdc (foundIdBytes id) 6 held 0#8 id :=
  (execReadAddress_cases s).resolve_left fun hended => hended.not_drq (by decide) hidle h

theorem execCommand_bufPos_of_drq (h : (execCommand s).fdc.status.getLsbD 1 = true) : (execCommand s).fdc.bufPos = 0 := by
  obtain ⟨st, id, hst, hended⟩ | ⟨buf, len, held, shown, id, disk, harmed⟩ | hsame := execCommand_cases s
  · exact absurd h (hended.not_drq hst hidle)
  · rw [harmed]
  · rw [hsame, hidle] at h
    contradiction

/-- Only the command's own part sets DRQ. -/
theorem executeNext_of_drq (h : (executeNext s).fdc.status.getLsbD 1 = true) :
    ∃ t, t.fdc = startedFdc s.fdc ∧ executeNext s = execCommand t := by
  obtain ⟨st, hst, hended⟩ | hbusy | hrun := executeNext_cases s
  · exact absurd h (hended.not_drq hst hidle)
  · rw [hbusy, hidle] at h
    contradiction
  · exact hrun

end

/-! ### The status read of a command in flight (R1140, R1142) -/

/-- The commands that run on. -/
abbrev runningCommands : List Byte := [0x80#8, 0x90#8, 0xA0#8, 0xB0#8, 0xC0#8, 0xE0#8, 0xF0#8]

section
variable (hbusy : s.fdc.status.getLsbD 0 = true) (hdrq : s.fdc.status.getLsbD 1 = false)
include hbusy hdrq

theorem inFlight : (fdcBusy s && !fdcDrq s) = true := by
  simp only [fdcBusy, fdcDrq, hbusy, hdrq]
  rfl

/-- The read leaves the controller as the execution does, but for the count of index pulses. -/
theorem fdcStatusRead_fdc : ∃ n, (fdcStatusRead s).2.fdc = { (executeNext s).fdc with idxCount := n } := by
  simp only [fdcStatusRead, inFlight hbusy hdrq, if_true]
  split
  · exact indexPulse_fdc _
  · exact ⟨_, rfl⟩

theorem fdcStatusRead_status (hcmd : s.fdc.cmd ∈ runningCommands) : (fdcStatusRead s).1 = (fdcStatusRead s).2.fdc.status := by
  have htypes : ∀ c ∈ runningCommands, statusIsType1 c = false := by decide
  simp [fdcStatusRead, inFlight hbusy hdrq, executeNext_cmd, htypes _ hcmd]

end

end

/-- What the statement says of a transfer that is armed, field by field. -/
theorem Armed.fields {f g h : Fdc} {n : Nat} {buf : List Byte} {len : Nat} {held shown : Byte} {id : FoundId}
    (harmed : Armed (startedFdc f) g buf len held shown id) (hh : h = { g with idxCount := n }) :
    h.buf = buf ∧ h.bufLen = len ∧ h.bufPos = 0 ∧ h.dataStatus = held ∧ h.status = f.status ||| 0x02#8 ||| shown ∧ h.id = id := by
  obtain ⟨disk, rfl⟩ := harmed
  subst hh
  exact ⟨rfl, rfl, rfl, rfl, rfl, rfl⟩

theorem Ended.fields {f g h : Fdc} {n : Nat} {st : Byte} {id : FoundId} (hended : Ended (startedFdc f) g st id)
    (hh : h = { g with idxCount := n }) :
    (h.status = (f.status ||| st) &&& 0xFE#8 ∧ h.buf = f.buf ∧ h.bufLen = f.bufLen) ∧ h.id = id := by
  obtain ⟨disk, rfl⟩ := hended
  subst hh
  exact ⟨⟨rfl, rfl, rfl⟩, rfl⟩

/-- An ID kept of a search is one asked for, with its CRC. -/
theorem asked_of_found {f g : Fdc} {id : IdField} (hid : g.id = foundId id (idCrc id)) (hasked : id.track = f.track ∧ id.sector = f.sector) :
    g.id.id.track = f.track ∧ g.id.id.sector = f.sector ∧ g.id.crcHi = hiByte (idCrc g.id.id) ∧ g.id.crcLo = loByte (idCrc g.id.id) := by
  rw [hid]
  exact ⟨hasked.1, hasked.2, rfl, rfl⟩

/-- Settles O31: on the reference disk from what each command's search finds, on any disk from what each command can end in once DRQ is
set. -/
theorem fdcReadArmsSector : Obligations.FdcReadArmsSector := by
  unfold Obligations.FdcReadArmsSector
  refine ⟨fun s d hdisk hbusy hdrq => ?image, fun s hbusy hdrq => ?any⟩
  case image =>
    intro sectors f failed armed bad deleted kept
    let t := s.mapFdc startedFdc
    have ht : t.fdc.disk = some (.image d) := hdisk
    obtain ⟨n, hf⟩ := fdcStatusRead_fdc hbusy hdrq
    rw [executeNext_of_image hdisk] at hf
    refine ⟨fun x hx => ⟨fun hcmd hdata => ?read, fun hcmd hdata => ?readNoData, fun hcmd => ?write⟩, fun hcmd hnone => ?noAddress,
      fun hcmd x rest hx => ?address, fun hcmd => ?readTrack, fun hcmd => ?writeTrack, fdcStatusRead_status hbusy hdrq⟩
    case read => exact (execCommand_read (s := t) hcmd ▸ execRead_of_find ht hx hdata).fields hf
    case readNoData => exact (execCommand_read (s := t) hcmd ▸ execRead_of_find_no_data ht hx hdata).fields hf
    case write =>
      rw [← sectorSize_eq]
      exact (execCommand_write (s := t) hcmd ▸ execWrite_of_find ht hx).fields hf
    case noAddress => exact (execCommand_readAddress (s := t) hcmd ▸ execReadAddress_of_no_sector ht hnone).fields hf
    case address => exact (execCommand_readAddress (s := t) hcmd ▸ execReadAddress_of_first_sector ht hx).fields hf
    case readTrack =>
      have harmed := execReadTrack_armed t
      rw [trackRead_of_image ht, funext trackSector_eq] at harmed
      exact (execCommand_readTrack (s := t) hcmd ▸ harmed).fields hf
    case writeTrack => exact (execCommand_writeTrack (s := t) hcmd ▸ execWriteTrack_armed t).fields hf
  case any =>
    intro f size asked hon
    obtain ⟨n, hf⟩ := fdcStatusRead_fdc hbusy hdrq
    have hstatus : f.status = (executeNext s).fdc.status := (congrArg Fdc.status hf).trans rfl
    rw [hstatus] at hon
    obtain ⟨t, ht, hrun⟩ := executeNext_of_drq hdrq hon
    rw [hrun] at hf hon
    have hidle : t.fdc.status.getLsbD 1 = false := by rw [ht]; exact hdrq
    have hcmd : t.fdc.cmd = s.fdc.cmd := by rw [ht]
    have hdisk : t.fdc.disk = s.fdc.disk := by rw [ht]
    simp only [size, ← sectorSize_eq, ← hcmd, ← hdisk]
    refine ⟨?bufPos, fun h => ?read, fun h => ?write, fun h => ?address, fun h => ?readTrack, fun h => ?writeTrack⟩
    case bufPos => exact (congrArg Fdc.bufPos hf).trans (execCommand_bufPos_of_drq hidle hon)
    case read =>
      rw [execCommand_read h] at hf hon
      obtain ⟨id, bytes, held, shown, hasked, harmed, hlength⟩ := execRead_of_drq hidle hon
      obtain ⟨hbuf, hlen, -, -, -, hid⟩ := (ht ▸ harmed).fields hf
      rw [ht] at hasked
      refine ⟨asked_of_found hid hasked, hlen.trans (congrArg List.length hbuf).symm, fun d hd => ?_⟩
      exact (hlen.trans (hlength d hd)).trans (by rw [hid]; rfl)
    case write =>
      rw [execCommand_write h] at hf hon
      obtain ⟨id, hasked, harmed⟩ := execWrite_of_drq hidle hon
      obtain ⟨hbuf, hlen, -, -, -, hid⟩ := (ht ▸ harmed).fields hf
      rw [ht] at hasked
      exact ⟨asked_of_found hid hasked, hlen.trans (by rw [hid]; rfl), hbuf⟩
    case address =>
      rw [execCommand_readAddress h] at hf hon
      obtain ⟨id, held, harmed⟩ := execReadAddress_of_drq hidle hon
      obtain ⟨hbuf, hlen, -, -, -, rfl⟩ := (ht ▸ harmed).fields hf
      exact ⟨hlen, hbuf⟩
    case readTrack =>
      rw [execCommand_readTrack h] at hf
      obtain ⟨hbuf, hlen, -⟩ := (ht ▸ execReadTrack_armed t).fields hf
      exact ⟨hlen, _, hbuf⟩
    case writeTrack =>
      rw [execCommand_writeTrack h] at hf
      obtain ⟨hbuf, hlen, -⟩ := (ht ▸ execWriteTrack_armed t).fields hf
      exact ⟨hlen, hbuf⟩

end Sys2Proof.Proofs.FdcTransfer
end

section
/-! The reset procedure (70_reset_and_hazards.md R1200, 62_fdc.md R1181). -/

namespace Sys2Proof.Proofs.ResetProcedure
open Sys2Proof Sys2Proof.Machine Sys2Proof.Proofs.FdcRegisters

/-- The contention flag of a line, in the visible lines R10 gives. -/
theorem lineContended_eq_decide (line : Nat) : lineContended line = decide (68 ≤ line ∧ line ≤ 259) := by
  rw [Bool.decide_and]
  exact Bool.and_true _

/-- With the motor off no index pulse is seen and none is counted (R1141). -/
theorem indexPulse_of_motor_off {s : State} (h : fdcMotorOn s = false) : indexPulse s = (false, s) :=
  if_pos (by simp [h])

/-- With no command in flight, a type 1 code latched, the head on track 0 and the motor off, a status read answers the status with TRACK00
added and changes nothing (R1140). -/
theorem fdcStatusRead_of_type1_of_motor_off {s : State} (hidle : fdcBusy s = false) (htype : statusIsType1 s.fdc.cmd = true)
    (hhead : s.fdc.head = 0) (hmotor : fdcMotorOn s = false) : fdcStatusRead s = (s.fdc.status ||| stTrack00, s) := by
  rw [fdcStatusRead_of_type1 hidle htype, indexPulse_of_motor_off hmotor]
  simp [hhead, statusBit]

/-- A reset leaves of the controller its disk (R1181). -/
theorem resetMachine_fdc (s : State) : (resetMachine s).fdc = { Fdc.reset with disk := s.fdc.disk } := rfl

/-- After a reset the command latched is 0x00, a type 1 code, and the motor is off: a status read shows TRACK00 alone (R1181). -/
theorem fdcStatusRead_resetMachine (s : State) : fdcStatusRead (resetMachine s) = (0x04#8, resetMachine s) := by
  have hidle : fdcBusy (resetMachine s) = false := by simp [fdcBusy, resetMachine_fdc, Fdc.reset]
  have htype : statusIsType1 (resetMachine s).fdc.cmd = true := by simp [statusIsType1, resetMachine_fdc, Fdc.reset]
  have hhead : (resetMachine s).fdc.head = 0 := by simp [resetMachine_fdc, Fdc.reset]
  have hmotor : fdcMotorOn (resetMachine s) = false := by simp [fdcMotorOn, resetMachine_fdc, Fdc.reset]
  rw [fdcStatusRead_of_type1_of_motor_off hidle htype hhead hmotor]
  simp [resetMachine_fdc, Fdc.reset, stTrack00]

/-- Settles O35: the contention flag is recomputed for the line the machine is on, and the status register answers the type 1 status of the
cleared controller; the rest is what `resetMachine` writes. -/
theorem resetProcedure : Obligations.ResetProcedure := by
  unfold Obligations.ResetProcedure
  intro s
  refine ⟨?registers, ?control, ?signals, ?clock, ?controller, ?statusRead, ?unchanged⟩
  case registers => exact ⟨rfl, rfl, rfl, rfl, rfl, rfl⟩
  case control => exact ⟨rfl, rfl, rfl, rfl, rfl, rfl, rfl⟩
  case signals => rfl
  case clock => rw [← lineContended_eq_decide]; rfl
  case controller => exact resetMachine_fdc s
  case statusRead => rw [fdcStatusRead_resetMachine]
  case unchanged => exact ⟨rfl, rfl, rfl, rfl⟩

end Sys2Proof.Proofs.ResetProcedure
end

section
/-! Encoding (30_encoding.md): the decoder reads back what the encoder writes, and an index mode changes the opcodes it names alone. -/

namespace Sys2Proof.Proofs.RoundTrip
open Sys2Proof Sys2Proof.Machine Sys2Proof.Proofs.Encoding

/-! ### The fields of an opcode byte the encoder has put together (R302) -/

section
variable (n : Nat)

@[simp] theorem fieldX_ofNat : fieldX (.ofNat 8 n) = n % 256 / 64 := rfl
@[simp] theorem fieldY_ofNat : fieldY (.ofNat 8 n) = n % 256 / 8 % 8 := rfl
@[simp] theorem fieldZ_ofNat : fieldZ (.ofNat 8 n) = n % 256 % 8 := rfl
@[simp] theorem fieldP_ofNat : fieldP (.ofNat 8 n) = n % 256 / 16 % 4 := rfl
@[simp] theorem fieldQ_ofNat : fieldQ (.ofNat 8 n) = n % 256 / 8 % 2 := rfl

end

section
variable (x p : BitVec 2) (y z : BitVec 3) (xy : BitVec 5) (qz : BitVec 4)

@[simp] theorem fieldX_xyz : fieldX (x ++ y ++ z) = x.toNat := by
  have := toNat_xyz x y z; unfold fieldX; omega
@[simp] theorem fieldY_xyz : fieldY (x ++ y ++ z) = y.toNat := by
  have := toNat_xyz x y z; unfold fieldY; omega
@[simp] theorem fieldZ_xyz : fieldZ (x ++ y ++ z) = z.toNat := by
  have := toNat_xyz x y z; unfold fieldZ; omega
@[simp] theorem fieldX_xpqz : fieldX (x ++ p ++ qz) = x.toNat := by
  have := toNat_xpqz x p qz; unfold fieldX; omega
@[simp] theorem fieldP_xpqz : fieldP (x ++ p ++ qz) = p.toNat := by
  have := toNat_xpqz x p qz; unfold fieldP; omega
@[simp] theorem fieldQ_xpqz : fieldQ (x ++ p ++ qz) = qz.toNat / 8 := by
  have := toNat_xpqz x p qz; unfold fieldQ; omega
@[simp] theorem fieldZ_xpqz : fieldZ (x ++ p ++ qz) = qz.toNat % 8 := by
  have := toNat_xpqz x p qz; unfold fieldZ; omega
@[simp] theorem fieldX_xy_z : fieldX (xy ++ z) = xy.toNat / 8 := by
  have := toNat_xy_z xy z; unfold fieldX; omega
@[simp] theorem fieldY_xy_z : fieldY (xy ++ z) = xy.toNat % 8 := by
  have := toNat_xy_z xy z; unfold fieldY; omega
@[simp] theorem fieldZ_xy_z : fieldZ (xy ++ z) = z.toNat := by
  have := toNat_xy_z xy z; unfold fieldZ; omega

end

/-! ### The operand of the code of an operand (R306 to R309) -/

@[simp] theorem Reg8.ofCode_code (r : Reg8) : Reg8.ofCode r.code.toNat = r := by cases r <;> rfl
@[simp] theorem Reg8.toNat_code_ne (r : Reg8) : r.code.toNat ≠ 6 := by cases r <;> decide
@[simp] theorem RP.ofCode_code (p : RP) : RP.ofCode p.code.toNat = p := by cases p <;> rfl
@[simp] theorem RP2.ofCode_code (p : RP2) : RP2.ofCode p.code.toNat = p := by cases p <;> rfl
@[simp] theorem RPX.ofCode_code (p : RPX) : RPX.ofCode p.code.toNat = p := by cases p <;> rfl
@[simp] theorem Cond.ofCode_code (cc : Cond) : Cond.ofCode cc.code.toNat = cc := by cases cc <;> rfl

@[simp] theorem RP.toNat_code_eq_two_iff (p : RP) : p.code.toNat = 2 ↔ p = .hl := by cases p <;> decide

theorem isHalf_iff (r : Reg8) : isHalf r = true ↔ r.code.toNat = 4 ∨ r.code.toNat = 5 := by cases r <;> decide

/-! ### Reading an instruction in its table -/

/-- In table `t` under index mode `x` the bytes `bs` are those of `i`, whatever bytes follow. -/
def Reads (t : OpTable) (x : IndexMode) (bs : List Byte) (i : Instr) : Prop :=
  ∀ rest, decodeFrom t x (bs ++ rest) = .ok (i, rest)

section
variable {t : OpTable} {x : IndexMode} {b0 b1 b2 : Byte} {i : Instr}

theorem reads_one (h : ∀ b1 b2, decodeOp t x b0 b1 b2 = (i, 1)) : Reads t x [b0] i := fun rest => by
  simp [decodeFrom, h]

theorem reads_two (h : ∀ b2, decodeOp t x b0 b1 b2 = (i, 2)) : Reads t x [b0, b1] i := fun rest => by
  simp [decodeFrom, h]

theorem reads_three (h : decodeOp t x b0 b1 b2 = (i, 3)) : Reads t x [b0, b1, b2] i := fun rest => by
  simp [decodeFrom, h]

end

/-! ### The prefix bytes that lead to a table (R312, R313, R315) -/

/-- Behind the bytes `before` an instruction is decoded as in table `t` under index mode `x`, unless it is itself a prefix byte with bytes to
lead to. -/
def Leads (before : List Byte) (t : OpTable) (x : IndexMode) : Prop :=
  ∀ bs i rest, decodeFrom t x bs = .ok (i, rest) → i.chase = none ∨ rest = [] → decode .cpu (before ++ bs) = .ok (i, rest)

/-- What is read is the whole instruction where it is no prefix byte or no byte follows it. -/
theorem decodeChain_of_end {n : Nat} {t : OpTable} {x : IndexMode} {bs rest : List Byte} {i : Instr}
    (h : decodeFrom t x bs = .ok (i, rest)) (hend : i.chase = none ∨ rest = []) : decodeChain n t x bs = .ok (i, rest) := by
  cases n with
  | zero => exact h
  | succ n =>
    simp only [decodeChain, h]
    obtain hnone | rfl := hend
    · rw [hnone]
    · cases i.chase <;> rfl

theorem leads_main : Leads [] .main .hl := fun _ _ _ h hend => decodeChain_of_end h hend

/-- A prefix byte passes the bytes behind it on to its table (R312, R313, R315). -/
theorem decodeChain_of_prefix {t t' : OpTable} {x x' : IndexMode} {p : Byte} {j : Instr} (hop : ∀ b1 b2, decodeOp t x p b1 b2 = (j, 1))
    (hchase : j.chase = some (t', x')) (n : Nat) {bs : List Byte} (hbs : bs ≠ []) :
    decodeChain (n + 1) t x (p :: bs) = decodeChain n t' x' bs := by
  obtain ⟨b, more, rfl⟩ := List.exists_cons_of_ne_nil hbs
  simp [decodeChain, decodeFrom, hop, hchase]

theorem ne_nil_of_decodeFrom {t : OpTable} {x : IndexMode} {bs rest : List Byte} {i : Instr} (h : decodeFrom t x bs = .ok (i, rest)) :
    bs ≠ [] := by
  rintro rfl
  contradiction

/-- One prefix byte of the main table leads into its table. -/
theorem leads_of_prefix {t : OpTable} {x : IndexMode} {p : Byte} {j : Instr} (hop : ∀ b1 b2, decodeOp .main .hl p b1 b2 = (j, 1))
    (hchase : j.chase = some (t, x)) : Leads [p] t x := fun bs _ _ h hend =>
  (decodeChain_of_prefix hop hchase bs.length (ne_nil_of_decodeFrom h)).trans (decodeChain_of_end h hend)

/-- The byte 0xCB behind an index prefix leads into the table of both. -/
theorem leads_of_prefixes {t : OpTable} {x y : IndexMode} {p q : Byte} {j k : Instr} (hop : ∀ b1 b2, decodeOp .main .hl p b1 b2 = (j, 1))
    (hchase : j.chase = some (.main, x)) (hop' : ∀ b1 b2, decodeOp .main x q b1 b2 = (k, 1)) (hchase' : k.chase = some (t, y)) :
    Leads [p, q] t y := fun bs _ _ h hend =>
  (decodeChain_of_prefix hop hchase (bs.length + 1) (List.cons_ne_nil q bs)).trans
    ((decodeChain_of_prefix hop' hchase' bs.length (ne_nil_of_decodeFrom h)).trans (decodeChain_of_end h hend))

theorem leads_cb : Leads [0xCB#8] .cb .hl := leads_of_prefix (fun _ _ => rfl) rfl
theorem leads_ed : Leads [0xED#8] .ed .hl := leads_of_prefix (fun _ _ => rfl) rfl
theorem leads_ix : Leads [0xDD#8] .main .ix := leads_of_prefix (fun _ _ => rfl) rfl
theorem leads_iy : Leads [0xFD#8] .main .iy := leads_of_prefix (fun _ _ => rfl) rfl
theorem leads_ddcb : Leads [0xDD#8, 0xCB#8] .ddcb .ix := leads_of_prefixes (fun _ _ => rfl) rfl (fun _ _ => rfl) rfl
theorem leads_fdcb : Leads [0xFD#8, 0xCB#8] .fdcb .iy := leads_of_prefixes (fun _ _ => rfl) rfl (fun _ _ => rfl) rfl

/-! ### Each instruction -/

/-- Each encoding is the prefix bytes of a table, then bytes read there as the instruction: by table and by number of bytes, the rows with
operands their opcode leaves out last. -/
theorem encode_reads (i : Instr) (hwf : WellFormed i = true) (hcpu : i.space = .cpu) :
    ∃ before t x bs, Leads before t x ∧ encode i = before ++ bs ∧ Reads t x bs i := by
  cases i
  case nop | ldAtBcA | incSs | incR | decR | rlca | exAfAf | addHlSs | ldAAtBc | decSs | rrca | ldAtDeA | rla | ldAAtDe | rra | daa
      | cpl | incAtHl | decAtHl | scf | ccf | ldRR | ldRAtHl | ldAtHlR | halt | addAR | addAAtHl | adcAR | adcAAtHl | subR | subAtHl
      | sbcAR | sbcAAtHl | andR | andAtHl | xorR | xorAtHl | orR | orAtHl | cpR | cpAtHl | retCc | popQq | pushQq | rst | ret |
      prefixCb | exx | prefixDd | exAtSpHl | jpHl | exDeHl | prefixEd | di | ldSpHl | ei | prefixFd =>
    refine ⟨_, _, _, _, leads_main, rfl, reads_one fun _ _ => ?_⟩
    simp [decodeOp, decodeMain, decodeMain0, decodeMain1, decodeMain2, decodeMain3, aluR, aluAtHl]
  case ldDdNn | ldAtNnHl | ldHlAtNn | ldAtNnA | ldAAtNn | jpCcNn | jpNn | callCcNn | callNn =>
    refine ⟨_, _, _, _, leads_main, rfl, reads_three ?_⟩
    simp [decodeOp, decodeMain, decodeMain0, decodeMain3, ofBytes_hi_lo]
  case ldRN | djnz | jr | jrNz | jrZ | jrNc | ldAtHlN | jrC | addAN | adcAN | subN | sbcAN | andN | xorN | orN | cpN | outNA | inAN =>
    refine ⟨_, _, _, _, leads_main, rfl, reads_two fun _ => ?_⟩
    simp [decodeOp, decodeMain, decodeMain0, decodeMain3, aluN]
  case rlcR | rlcAtHl | rrcR | rrcAtHl | rlR | rlAtHl | rrR | rrAtHl | slaR | slaAtHl | sraR | sraAtHl | sll | srlR | srlAtHl | bitR
      | bitAtHl | resR | resAtHl | setR | setAtHl =>
    refine ⟨_, _, _, _, leads_cb, rfl, reads_one fun _ _ => ?_⟩
    simp [decodeOp, decodeCb]
  case inRC | outCR | sbcHlSs | neg | retn | im0 | ldIA | adcHlSs | reti | ldRA | im1 | ldAI | im2 | ldAR | rrd | rld | inFC | outC0
      | im1Mirror | im2Mirror | ldi | cpi | ini | outi | ldd | cpd | ind | outd | ldir | cpir | inir | otir | lddr | cpdr | indr |
      otdr =>
    refine ⟨_, _, _, _, leads_ed, rfl, reads_one fun _ _ => ?_⟩
    simp [decodeOp, decodeEd, decodeEd1, decodeEdBlock]
  case ldAtNnHlEd | ldHlAtNnEd =>
    refine ⟨_, _, _, _, leads_ed, rfl, reads_three ?_⟩
    simp [decodeOp, decodeEd, decodeEd1, ofBytes_hi_lo]
  case addIxPp | incIx | incIxh | decIxh | decIx | incIxl | decIxl | addAIxh | addAIxl | adcAIxh | adcAIxl | subIxh | subIxl |
      sbcAIxh | sbcAIxl | andIxh | andIxl | xorIxh | xorIxl | orIxh | orIxl | cpIxh | cpIxl | prefixDdcb | popIx | exAtSpIx | pushIx
      | jpIx | prefixEdIdx | ldSpIx =>
    refine ⟨_, _, _, _, leads_ix, rfl, reads_one fun _ _ => ?_⟩
    simp [decodeOp, decodeMainIx, aluIxh, aluIxl]
  case ldIxNn | ldAtNnIx | ldIxAtNn | ldAtIxN =>
    refine ⟨_, _, _, _, leads_ix, rfl, reads_three ?_⟩
    simp [decodeOp, decodeMainIx, ofBytes_hi_lo]
  case ldIxhN | ldIxlN | incAtIx | decAtIx | ldRAtIx | ldAtIxR | addAAtIx | adcAAtIx | subAtIx | sbcAAtIx | andAtIx | xorAtIx |
      orAtIx | cpAtIx =>
    refine ⟨_, _, _, _, leads_ix, rfl, reads_two fun _ => ?_⟩
    simp [decodeOp, decodeMainIx, aluAtIx]
  case addIyRr | incIy | incIyh | decIyh | decIy | incIyl | decIyl | addAIyh | addAIyl | adcAIyh | adcAIyl | subIyh | subIyl |
      sbcAIyh | sbcAIyl | andIyh | andIyl | xorIyh | xorIyl | orIyh | orIyl | cpIyh | cpIyl | prefixFdcb | popIy | exAtSpIy | pushIy
      | jpIy | ldSpIy =>
    refine ⟨_, _, _, _, leads_iy, rfl, reads_one fun _ _ => ?_⟩
    simp [decodeOp, decodeMainIy, aluIyh, aluIyl]
  case ldIyNn | ldAtNnIy | ldIyAtNn | ldAtIyN =>
    refine ⟨_, _, _, _, leads_iy, rfl, reads_three ?_⟩
    simp [decodeOp, decodeMainIy, ofBytes_hi_lo]
  case ldIyhN | ldIylN | incAtIy | decAtIy | ldRAtIy | ldAtIyR | addAAtIy | adcAAtIy | subAtIy | sbcAAtIy | andAtIy | xorAtIy |
      orAtIy | cpAtIy =>
    refine ⟨_, _, _, _, leads_iy, rfl, reads_two fun _ => ?_⟩
    simp [decodeOp, decodeMainIy, aluAtIy]
  case rlcAtIxR | rlcAtIx | rrcAtIxR | rrcAtIx | rlAtIxR | rlAtIx | rrAtIxR | rrAtIx | slaAtIxR | slaAtIx | sraAtIxR | sraAtIx |
      sllAtIx | srlAtIxR | srlAtIx | bitAtIxMirror | bitAtIx | resAtIxR | resAtIx | setAtIxR | setAtIx =>
    refine ⟨_, _, _, _, leads_ddcb, rfl, reads_two fun _ => ?_⟩
    simp [decodeOp, decodeDdcb]
  case rlcAtIyR | rlcAtIy | rrcAtIyR | rrcAtIy | rlAtIyR | rlAtIy | rrAtIyR | rrAtIy | slaAtIyR | slaAtIy | sraAtIyR | sraAtIy |
      sllAtIy | srlAtIyR | srlAtIy | bitAtIyMirror | bitAtIy | resAtIyR | resAtIy | setAtIyR | setAtIy =>
    refine ⟨_, _, _, _, leads_fdcb, rfl, reads_two fun _ => ?_⟩
    simp [decodeOp, decodeFdcb]
  case negMirror | retnMirror =>
    refine ⟨_, _, _, _, leads_ed, rfl, reads_one fun _ _ => ?_⟩
    simp [WellFormed, ← BitVec.toNat_inj] at hwf
    simp [decodeOp, decodeEd, decodeEd1, hwf]
  case im0Mirror | nopEd77 =>
    refine ⟨_, _, _, _, leads_ed, rfl, reads_one fun _ _ => ?_⟩
    simp [WellFormed, or_assoc] at hwf
    rcases hwf with rfl | rfl | rfl <;> rfl
  case ldAtNnDd | ldDdAtNn =>
    refine ⟨_, _, _, _, leads_ed, rfl, reads_three ?_⟩
    simp [WellFormed] at hwf
    simp [decodeOp, decodeEd, decodeEd1, ofBytes_hi_lo, hwf]
  case edNop op =>
    refine ⟨_, _, _, _, leads_ed, rfl, reads_one fun _ _ => ?_⟩
    obtain ⟨h1, h2⟩ := not_or.mp ((edUnassigned_iff op).mp hwf)
    simp only [decodeOp, decodeEd, h1, h2, if_false]
  case ldRRIx r src =>
    refine ⟨_, _, _, _, leads_ix, rfl, reads_one fun _ _ => ?_⟩
    simp only [WellFormed, Bool.or_eq_true, isHalf_iff, or_assoc] at hwf
    simp [decodeOp, decodeMainIx, hwf]
  case ldRRIy r src =>
    refine ⟨_, _, _, _, leads_iy, rfl, reads_one fun _ _ => ?_⟩
    simp only [WellFormed, Bool.or_eq_true, isHalf_iff, or_assoc] at hwf
    simp [decodeOp, decodeMainIy, hwf]
  case fdcRestore | fdcSeek | fdcStep | fdcStepUpdate | fdcStepIn | fdcStepInUpdate | fdcStepOut | fdcStepOutUpdate | fdcReadSector |
      fdcReadSectors | fdcWriteSector | fdcWriteSectors | fdcReadAddress | fdcForceInterrupt | fdcReadTrack | fdcWriteTrack =>
    contradiction

/-! ### The commands of the controller (62_fdc.md R1112) -/

theorem highNibble (hi lo : BitVec 4) : (hi ++ lo : Byte).toNat / 16 = hi.toNat := by
  have := lo.isLt
  rw [toNat_nibbles]
  omega

theorem lowNibble (hi lo : BitVec 4) : (hi ++ lo : Byte).extractLsb' 0 4 = lo := by
  have := lo.isLt
  rw [← BitVec.toNat_inj, BitVec.extractLsb'_toNat, toNat_nibbles]
  omega

theorem decode_encode_command (i : Instr) {side : Bool} (h : i.space = .fdcCommand side) (rest : List Byte) :
    decode i.space (encode i ++ rest) = .ok (i, rest) := by
  cases i
  case fdcRestore | fdcSeek | fdcStep | fdcStepUpdate | fdcStepIn | fdcStepInUpdate | fdcStepOut | fdcStepOutUpdate | fdcReadSector |
      fdcReadSectors | fdcWriteSector | fdcWriteSectors | fdcReadAddress | fdcForceInterrupt | fdcReadTrack | fdcWriteTrack =>
    simp [decode, Instr.space, encode, decodeFdcCommand, highNibble, lowNibble, -toNat_nibbles]
  all_goals contradiction

/-- A CPU instruction's bytes are decoded to it behind the prefix bytes of its table. -/
theorem decode_encode_cpu {i : Instr} (hwf : WellFormed i = true) (hcpu : i.space = .cpu) {rest : List Byte}
    (hend : i.chase = none ∨ rest = []) : decode i.space (encode i ++ rest) = .ok (i, rest) := by
  obtain ⟨before, t, x, bs, hleads, hbytes, hreads⟩ := encode_reads i hwf hcpu
  rw [hcpu, hbytes, List.append_assoc]
  exact hleads _ i rest (hreads rest) hend

theorem decode_encode {i : Instr} (hwf : WellFormed i = true) {rest : List Byte} (hend : i.chase = none ∨ rest = []) :
    decode i.space (encode i ++ rest) = .ok (i, rest) := by
  cases hspace : i.space with
  | cpu => exact hspace ▸ decode_encode_cpu hwf hspace hend
  | fdcCommand side => exact hspace ▸ decode_encode_command i hspace rest

/-- Settles O43: a CPU instruction by its table, a command of the controller by its byte. -/
theorem decodeEncodeRoundTrip : Obligations.DecodeEncodeRoundTrip := by
  unfold Obligations.DecodeEncodeRoundTrip
  intro i hwf
  refine ⟨?alone, fun hchase rest => decode_encode hwf (.inl hchase)⟩
  simpa using decode_encode hwf (rest := []) (.inr rfl)

/-- Settles O42: each word is the encoding of its instruction. -/
theorem sampleWordsDecode : Obligations.SampleWordsDecode := by
  unfold Obligations.SampleWordsDecode
  have alone : ∀ i, WellFormed i = true → decode i.space (encode i) = .ok (i, []) := fun i hwf => (decodeEncodeRoundTrip i hwf).1
  exact ⟨alone (.ldRN .a 0x12#8) rfl, alone (.ldAtNnHl 0x1234#16) rfl, alone .ldir rfl, alone .addAAtHl rfl, alone .im2 rfl,
    alone (.adcHlSs .bc) rfl, alone (.bitAtIx 0x05#8 0#3) rfl, alone (.rst 7#3) rfl, alone (.inRC .d) rfl, alone (.ldIyhN 0xA5#8) rfl,
    alone (.fdcReadSector true 0xF#4) rfl⟩

/-! ### Index modes (R312, R812, R813) -/

/-- The same bytes behind prefix bytes and without them are two instructions. -/
theorem ne_of_encodes {before : List Byte} {b0 b1 b2 : Byte} {p q : Instr × Nat} (hbefore : before ≠ []) (hp : Encodes before b0 b1 b2 p)
    (hq : Encodes [] b0 b1 b2 q) : p ≠ q := by
  rintro rfl
  obtain ⟨-, -, -, -, hbytes⟩ := hp
  obtain ⟨-, -, -, -, hbytes'⟩ := hq
  rw [hbytes] at hbytes'
  exact hbefore (List.append_cancel_right hbytes')

/-- Settles O45: the opcodes an index mode does not affect are left to the main table, and the others are encoded behind its prefix byte. -/
theorem indexModeLeavesOtherOpcodes : Obligations.IndexModeLeavesOtherOpcodes := by
  unfold Obligations.IndexModeLeavesOtherOpcodes
  refine ⟨fun b0 b1 b2 haffected hed x => ?others, fun x b1 b2 s => ?ed, fun b0 b1 b2 haffected => ⟨?ix, ?iy⟩⟩
  case others =>
    cases x with
    | hl => rfl
    | ix => exact decodeMainIx_eq_decodeMain haffected hed b1 b2
    | iy => exact decodeMainIy_eq_decodeMain haffected hed b1 b2
  case ed => cases x <;> rfl
  case ix => exact ne_of_encodes (List.cons_ne_nil _ []) (decodeMainIx_encodes_of_affected haffected b1 b2) (decodeMain_encodes b0 b1 b2)
  case iy => exact ne_of_encodes (List.cons_ne_nil _ []) (decodeMainIy_encodes_of_affected haffected b1 b2) (decodeMain_encodes b0 b1 b2)

end Sys2Proof.Proofs.RoundTrip
end

section
/-! SUPPORT. From the accesses an instruction makes and the registers it then writes to the effect its rule tabulates. -/

namespace Sys2Proof.Proofs.Effects
open Sys2Proof Sys2Proof.Machine

/-- From `s` to `u` the accesses of `l` have been made and nothing else done. -/
structure Accessed (s u : State) (l : List Access) : Prop where
  did : Did s u l
  regs : u.regs = s.regs
  ctl : u.ctl = s.ctl
  draws : u.draws = s.draws
  wf : Memory.wf s.mem = true → Memory.wf u.mem = true

section
variable {s u : State} {l : List Access}

theorem Accessed.nothing (s : State) : Accessed s s [] := ⟨.refl s, rfl, rfl, rfl, id⟩

theorem Accessed.thenRead (h : Accessed s u l) (a : Word) : Accessed s (memCharge a u) (l ++ [.read a]) :=
  ⟨h.did.read a, h.regs, h.ctl, h.draws, h.wf⟩

theorem Accessed.thenWrite (hw : Memory.wf s.mem = true) (h : Accessed s u l) (a : Word) (v : Byte) :
    Accessed s (memWriteByte a v u) (l ++ [.write a v]) :=
  ⟨h.did.write (h.wf hw) a v, by simp [h.regs], by simp [h.ctl], by simp [h.draws], fun _ => wf_memWriteByte (h.wf hw) a v⟩

theorem Accessed.read (s : State) (a : Word) : Accessed s (memCharge a s) [.read a] := (Accessed.nothing s).thenRead a

theorem Accessed.write (hw : Memory.wf s.mem = true) (a : Word) (v : Byte) : Accessed s (memWriteByte a v s) [.write a v] :=
  (Accessed.nothing s).thenWrite hw a v

/-- A read-modify-write of one byte. -/
theorem Accessed.modify (hw : Memory.wf s.mem = true) (a : Word) (v : Byte) :
    Accessed s (memWriteByte a v (memCharge a s)) [.read a, .write a v] := (Accessed.read s a).thenWrite hw a v

theorem Accessed.readWord (s : State) (a : Word) : Accessed s (memCharge (a + 1#16) (memCharge a s)) (readsWord a) :=
  (Accessed.read s a).thenRead (a + 1#16)

theorem Accessed.thenWriteWord (hw : Memory.wf s.mem = true) (h : Accessed s u l) (a v : Word) :
    Accessed s (memWriteWord a v u) (l ++ writesWord a v) :=
  ⟨h.did.writeWord (h.wf hw) a v, by simp [h.regs], by simp [h.ctl], by simp [h.draws], fun _ => wf_memWriteWord (h.wf hw) a v⟩

theorem Accessed.writeWord (hw : Memory.wf s.mem = true) (a v : Word) : Accessed s (memWriteWord a v s) (writesWord a v) :=
  (Accessed.nothing s).thenWriteWord hw a v

variable {i : Instr} {f : Regs → Regs} {t n : Nat}

/-- An instruction that makes its accesses and then writes registers has the effect of the two. -/
theorem Accessed.completes (h : Accessed s u l) (hx : exec i s = .next (spend t n (u.mapRegs f))) :
    Completes i s (plain s (f s.regs) l t n) :=
  completesFrom_of_did hx (h.did.mapRegs f) (congrArg (fun g => (f g).closed _) h.regs) h.ctl fun _ => h.draws

/-- An instruction that makes accesses alone. -/
theorem Accessed.completes_unchanged (h : Accessed s u l) (hx : exec i s = .next (spend t n u)) : Completes i s (plain s s.regs l t n) :=
  h.completes (f := id) hx

/-- An instruction that makes no access and writes registers. -/
theorem completes_of_regs {g : Regs} (hx : exec i s = .next (spend t n { s with regs := g })) : Completes i s (plain s g [] t n) :=
  (Accessed.nothing s).completes (f := fun _ => g) hx

/-- An instruction that reads one byte and writes registers. -/
theorem completes_of_read {a : Word} {g : Regs} (hx : exec i s = .next (spend t n { memCharge a s with regs := g })) :
    Completes i s (plain s g [.read a] t n) := (Accessed.read s a).completes (f := fun _ => g) hx

/-- An instruction that reads one word and writes registers. -/
theorem completes_of_readWord {a : Word} {g : Regs}
    (hx : exec i s = .next (spend t n { memCharge (a + 1#16) (memCharge a s) with regs := g })) :
    Completes i s (plain s g (readsWord a) t n) := (Accessed.readWord s a).completes (f := fun _ => g) hx

end

end Sys2Proof.Proofs.Effects
end

section
/-! Loads, the stack, exchanges and blocks (40_load8.md, 41_load16_stack.md, 42_exchange_block.md): each instruction completes with the effect
of its rule. -/

namespace Sys2Proof.Proofs.Loads
open Sys2Proof Sys2Proof.Machine Sys2Proof.Proofs.Effects

/-- Settles O1: each load is one access at most, and one register write. -/
theorem load8Completes : Obligations.Load8Completes := by
  unfold Obligations.Load8Completes
  intro s hw
  refine ⟨fun r src => ?regs, fun r n => ?imm, fun r => ?rHl, fun src => ?hlR, fun n => ?hlN, ?aBc, ?aDe, fun nn => ?aNn, ?bcA, ?deA,
    fun nn => ?nnA⟩
  case regs | imm => exact completes_of_regs rfl
  case rHl | aBc | aDe | aNn => exact completes_of_read rfl
  case hlR | hlN | bcA | deA | nnA => exact (Accessed.write hw _ _).completes_unchanged rfl

/-- Settles O2: as the loads of O1, at an effective address. -/
theorem loadIndexedAndSpecialCompletes : Obligations.LoadIndexedAndSpecialCompletes := by
  unfold Obligations.LoadIndexedAndSpecialCompletes
  intro s hw
  refine ⟨fun r d => ?rIx, fun r d => ?rIy, fun src d => ?ixR, fun src d => ?iyR, fun d n => ?ixN, fun d n => ?iyN, ?aI, ?aR, ?iA, ?rA⟩
  case rIx | rIy => exact completes_of_read rfl
  case ixR | iyR | ixN | iyN => exact (Accessed.write hw _ _).completes_unchanged rfl
  case aI | aR | iA | rA => exact completes_of_regs rfl

/-- Settles O3: a load through `nn` is one word access. -/
theorem load16Completes : Obligations.Load16Completes := by
  unfold Obligations.Load16Completes
  intro s hw
  refine ⟨fun dd nn => ?ddNn, fun nn => ?ixNn, fun nn => ?iyNn, fun nn => ?hlAt, fun dd nn => ?ddAt, fun nn => ?ixAt, fun nn => ?iyAt,
    fun nn => ?atHl, fun dd nn => ?atDd, fun nn => ?atIx, fun nn => ?atIy, fun nn => ?hlAtEd, fun nn => ?atHlEd, ?spHl, ?spIx, ?spIy⟩
  case ddNn => exact completes_of_regs (by cases dd <;> rfl)
  case ddAt => exact completes_of_readWord (by cases dd <;> rfl)
  case ixNn | iyNn | spHl | spIx | spIy => exact completes_of_regs rfl
  case hlAt | ixAt | iyAt | hlAtEd => exact completes_of_readWord rfl
  case atHl | atDd | atIx | atIy | atHlEd => exact (Accessed.writeWord hw _ _).completes_unchanged rfl

/-- SP is lowered before the word is written, so a push is no `Accessed` of the state before. -/
theorem completes_of_push {s : State} {i : Instr} {v : Word} {t n : Nat} (hw : Memory.wf s.mem = true)
    (hx : exec i s = .next (spend t n (push16 v s))) :
    Completes i s (plain s { s.regs with sp := s.regs.sp - 2#16 } (writesWord (s.regs.sp - 2#16) v) t n) := by
  refine completesFrom_of_did hx ((Did.refl s).push hw v) ?_ ?_ fun _ => ?_ <;> simp [push16_eq, plain, setSp]

/-- Settles O4: PUSH and POP are one word access at the stack pointer. -/
theorem stackCompletes : Obligations.StackCompletes := by
  unfold Obligations.StackCompletes
  intro s hw
  refine ⟨fun qq => ?push, ?pushIx, ?pushIy, fun qq => ?pop, ?popIx, ?popIy⟩
  case push | pushIx | pushIy => exact completes_of_push hw rfl
  case pop => exact completes_of_readWord (by cases qq <;> rfl)
  case popIx | popIy => exact completes_of_readWord rfl

/-- Settles O5: the exchanges with the stack read the word at SP and write the other side there. -/
theorem exchangeCompletes : Obligations.ExchangeCompletes := by
  unfold Obligations.ExchangeCompletes
  intro s hw
  have stack (v : Word) := (Accessed.readWord s s.regs.sp).thenWriteWord hw s.regs.sp v
  refine ⟨?deHl, ?afAf, ?exx, ?spHl, ?spIx, ?spIy⟩
  case deHl =>
    refine completes_of_regs ?_
    show Host.Outcome.next (spend 4 1 (setHl (getDe s) (setDe (getHl s) s))) = _
    simp [setHl, setDe, getHl, getDe, hiByte_ofBytes, loByte_ofBytes, State.mapRegs]
  case afAf | exx => exact completes_of_regs rfl
  case spHl => exact (stack (getHl s)).completes (f := fun g => { g with h := _, l := _ }) rfl
  case spIx => exact (stack s.regs.ix).completes (f := fun g => { g with ix := _ }) rfl
  case spIy => exact (stack s.regs.iy).completes (f := fun g => { g with iy := _ }) rfl

/-! ### Blocks (R506 to R513) -/

section
variable {s : State} {i : Instr} {delta : Word} {t n : Nat}

/-- One iteration of a block transfer. -/
theorem completes_of_blockLoad (hw : Memory.wf s.mem = true) (hx : exec i s = .next (spend t n (blockLoad delta s))) :
    Completes i s (plain s (blockLoadRegs delta s.regs.pc s) [.read (getHl s), .write (getDe s) (s.byteAt (getHl s))] t n) := by
  rw [blockLoad_eq] at hx
  exact ((Accessed.read s _).thenWrite hw _ _).completes hx

/-- One iteration of a block transfer that is to run again. -/
theorem completes_of_blockLoad_repeat (hw : Memory.wf s.mem = true)
    (hx : exec i s = .next (spend t n (repeatInstr (blockLoad delta s)))) :
    Completes i s
      (plain s (blockLoadRegs delta (s.regs.pc - 2#16) s) [.read (getHl s), .write (getDe s) (s.byteAt (getHl s))] t n) := by
  rw [blockLoad_eq] at hx
  exact ((Accessed.read s _).thenWrite hw _ _).completes (f := fun _ => blockLoadRegs delta (s.regs.pc - 2#16) s) hx

end

/-- A count is 0 after it goes down exactly where it was 1. -/
theorem sub_one_eq_zero_iff {w : Nat} (v : BitVec w) : v - 1#w = 0#w ↔ v = 1#w := by
  rw [BitVec.sub_eq_iff_eq_add, BitVec.zero_add]

theorem getBc_blockLoad (delta : Word) (s : State) : getBc (blockLoad delta s) = 0#16 ↔ getBc s = 1#16 := by
  rw [blockLoad_eq, ← sub_one_eq_zero_iff]
  exact iff_of_eq (congrArg (· = 0#16) (ofBytes_hi_lo (getBc s - 1#16)))

theorem getBc_blockCompare (delta : Word) (s : State) : getBc (blockCompare delta s).2 = 0#16 ↔ getBc s = 1#16 := by
  rw [← sub_one_eq_zero_iff]
  exact iff_of_eq (congrArg (· = 0#16) (ofBytes_hi_lo (getBc s - 1#16)))

/-- Settles O6: a repeating transfer is one iteration, run again unless BC was 1. -/
theorem blockTransferCompletes : Obligations.BlockTransferCompletes := by
  unfold Obligations.BlockTransferCompletes
  intro s hw
  refine ⟨completes_of_blockLoad hw rfl, completes_of_blockLoad hw rfl, fun last => ⟨?_, ?_⟩, fun more => ⟨?_, ?_⟩⟩
  · exact completes_of_blockLoad hw (congrArg _ (if_pos ((getBc_blockLoad _ s).2 last)))
  · exact completes_of_blockLoad hw (congrArg _ (if_pos ((getBc_blockLoad _ s).2 last)))
  · exact completes_of_blockLoad_repeat hw (congrArg _ (if_neg (mt (getBc_blockLoad _ s).1 more)))
  · exact completes_of_blockLoad_repeat hw (congrArg _ (if_neg (mt (getBc_blockLoad _ s).1 more)))

/-- A repeating search ends where BC was 1 or the byte is A. -/
theorem blockCompare_ends (delta : Word) (s : State) :
    (decide (getBc (blockCompare delta s).2 = 0#16) || (blockCompare delta s).1) = true ↔
      getBc s = 1#16 ∨ s.byteAt (getHl s) = s.regs.a := by
  rw [Bool.or_eq_true, decide_eq_true_iff, getBc_blockCompare, blockCompare_eq, beq_iff_eq, eq_comm (a := s.regs.a)]

/-- Settles O7: a repeating search is one iteration, run again unless it has ended. -/
theorem blockSearchCompletes : Obligations.BlockSearchCompletes := by
  unfold Obligations.BlockSearchCompletes
  intro s _
  refine ⟨completes_of_read rfl, completes_of_read rfl, fun ends => ⟨?_, ?_⟩, fun more => ?_⟩
  · exact completes_of_read (congrArg _ (if_pos ((blockCompare_ends _ s).2 ends)))
  · exact completes_of_read (congrArg _ (if_pos ((blockCompare_ends _ s).2 ends)))
  · have goes (delta : Word) := mt (blockCompare_ends delta s).1 (not_or.2 more)
    exact ⟨completes_of_read (congrArg _ (if_neg (goes _))), completes_of_read (congrArg _ (if_neg (goes _)))⟩

end Sys2Proof.Proofs.Loads
end

section
/-! Arithmetic, general control, rotates and bits (43_alu8.md to 46_rotate_shift_bit.md, 49_undocumented_and_fallback.md): each instruction
completes with the effect of its rule. -/

namespace Sys2Proof.Proofs.Arithmetic
open Sys2Proof Sys2Proof.Machine Sys2Proof.Proofs.Effects

/-! ### Accumulator operations (R550 to R561, R811) -/

section
variable {s : State} {i : Instr} {op : AluOp} {t n : Nat}

theorem completes_of_alu {v : Byte} (hx : exec i s = .next (spend t n (alu op v s))) :
    Completes i s (plain s (s.regs.withAF (aluResult op s.regs.a v s.regs.f)) [] t n) := completes_of_regs hx

theorem completes_of_aluAt {a : Word} (hx : exec i s = .next (spend t n (aluAt op a s))) :
    Completes i s (plain s (s.regs.withAF (aluResult op s.regs.a (s.byteAt a) s.regs.f)) [.read a] t n) := completes_of_read hx

end

/-- Settles O8: every operand form of an accumulator operation is that operation on its operand. -/
theorem accumulatorOperationsComplete : Obligations.AccumulatorOperationsComplete := by
  unfold Obligations.AccumulatorOperationsComplete
  intro s _
  refine ⟨fun p hp src => ?reg, fun p hp n => ?imm, fun p hp => ?hl, fun p hp d => ?ix, fun p hp d => ?iy, fun p hp => ?ixh,
    fun p hp => ?ixl, fun p hp => ?iyh, fun p hp => ?iyl⟩
  case reg | imm | ixh | ixl | iyh | iyl => exact completes_of_alu (by fin_cases hp <;> rfl)
  case hl | ix | iy => exact completes_of_aluAt (by fin_cases hp <;> rfl)

/-! ### INC and DEC of bytes (R562 to R569, R811) -/

theorem getRx_hl (r : Reg8) (s : State) : getRx .hl r s = getR r s := by
  cases r
  case h => exact hiByte_ofBytes _ _
  case l => exact loByte_ofBytes _ _
  all_goals rfl

theorem setRx_hl (r : Reg8) (v : Byte) (s : State) : setRx .hl r v s = setR r v s := by
  cases r
  case h | l => simp [setRx, setXh, setXl, getXh, getXl, getX, setX, setHl, getHl, setR, State.mapRegs, hiByte_ofBytes, loByte_ofBytes]
  all_goals rfl

theorem incRx_hl (r : Reg8) (s : State) :
    incRx .hl r s = writeF (incFlags (getR r s) (getR r s + 1#8) s.regs.f) (setR r (getR r s + 1#8) s) := by
  simp only [incRx, getRx_hl, setRx_hl]

theorem decRx_hl (r : Reg8) (s : State) :
    decRx .hl r s = writeF (decFlags (getR r s) (getR r s - 1#8) s.regs.f) (setR r (getR r s - 1#8) s) := by
  simp only [decRx, getRx_hl, setRx_hl]

/-- Settles O9: INC and DEC of a memory byte read it, write it back and then write F. -/
theorem incrementsComplete : Obligations.IncrementsComplete := by
  unfold Obligations.IncrementsComplete
  intro s hw
  refine ⟨fun r => ?inc, fun r => ?dec, ?incHl, ?decHl, fun d => ?incIx, fun d => ?decIx, fun d => ?incIy, fun d => ?decIy,
    ⟨?incIxh, ?decIxh, ?incIxl, ?decIxl⟩, ⟨?incIyh, ?decIyh, ?incIyl, ?decIyl⟩⟩
  case inc => exact completes_of_regs (congrArg (fun u => Host.Outcome.next (spend 4 1 u)) (incRx_hl r s))
  case dec => exact completes_of_regs (congrArg (fun u => Host.Outcome.next (spend 4 1 u)) (decRx_hl r s))
  case incHl | decHl | incIx | decIx | incIy | decIy =>
    exact (Accessed.modify hw _ _).completes (f := fun g => g.withF _) rfl
  all_goals exact completes_of_regs rfl

/-! ### General arithmetic and control (R600 to R611) -/

section
variable {s : State} {i : Instr} {t n : Nat}

/-- An instruction that makes no access and writes F with Y and X left open. -/
theorem completes_of_xyOpen {f : Byte} (hx : exec i s = .next (spend t n (writeFOpen xyOpen f s))) :
    Completes i s { regs := s.regs.withF f, openF := 0x28#8, ctl := s.ctl, t := t, n := n } :=
  completesFrom_of_did hx ((Did.refl s).nextDraw.setF _) (writeFOpen_closed _ f s) rfl
    fun (h : (0x28#8 : Byte) = 0#8) => absurd h (by decide)

/-- An instruction that makes no access and writes the control state and registers. -/
theorem completes_of_ctl {g : Regs} {k : Control} (hx : exec i s = .next (spend t n { s with regs := g, ctl := k })) :
    Completes i s { regs := g, ctl := k, t := t, n := n } :=
  completesFrom_of_did hx (((Did.refl s).mapRegs fun _ => g).mapCtl fun _ => k) rfl rfl fun _ => rfl

end

/-- Settles O10: A and F are written at once, F after CCF and SCF with Y and X open. -/
theorem generalArithmeticCompletes : Obligations.GeneralArithmeticCompletes := by
  unfold Obligations.GeneralArithmeticCompletes
  intro s
  refine ⟨?daa, ?cpl, ?neg, fun _ => ?mirror, ?ccf, ?scf, ?nop, fun _ => ?ed77, fun _ => ?ed⟩
  case ccf | scf => exact completes_of_xyOpen rfl
  case daa | cpl | neg | mirror | nop | ed77 | ed => exact completes_of_regs rfl

/-- Settles O11: the control instructions write the control state, HALT also PC; a prefix byte spends what its T and N leave. -/
theorem controlCompletes : Obligations.ControlCompletes := by
  unfold Obligations.ControlCompletes
  intro s
  refine ⟨?halt, ?di, ?ei, ?im0, ?im1, ?im2, fun _ => ?mirror0, ?mirror1, ?mirror2, ?dd, ?fd, ?cb, ?ed, ?edIdx, ?ddcb, ?fdcb⟩
  all_goals exact completes_of_ctl rfl

/-! ### 16-bit arithmetic (R630 to R640) -/

/-- Settles O12: a pair is read, counted or added to, and written. -/
theorem arithmetic16Completes : Obligations.Arithmetic16Completes := by
  unfold Obligations.Arithmetic16Completes
  intro s
  refine ⟨fun ss => ?add, fun ss => ?adc, fun ss => ?sbc, fun pp => ?ix, fun rr => ?iy, fun ss => ?inc, fun ss => ?dec, ?incIx, ?incIy,
    ?decIx, ?decIy⟩
  case inc | dec => exact completes_of_regs (by cases ss <;> rfl)
  all_goals exact completes_of_regs rfl

/-! ### Rotates, shifts and bits (R660 to R691, R815) -/

/-- Settles O13: RLD and RRD read and write the byte at HL and then write A and F. -/
theorem accumulatorRotatesComplete : Obligations.AccumulatorRotatesComplete := by
  unfold Obligations.AccumulatorRotatesComplete
  intro s hw
  refine ⟨fun p hp => completes_of_regs (by fin_cases hp <;> rfl), ?rld, ?rrd⟩
  case rld | rrd => exact (Accessed.modify hw _ _).completes (f := fun g => g.withAF (_, valueFlags _ g.f)) rfl

/-- Settles O14: a rotate of memory reads the byte, writes it back and then writes F; the copying forms write a register too. -/
theorem rotatesComplete : Obligations.RotatesComplete := by
  unfold Obligations.RotatesComplete
  intro s hw
  refine ⟨fun p hp r => ?reg, fun p hp => ?hl, fun p hp d => ?ix, fun p hp d => ?iy, fun p hp d r => ?ixR, fun p hp d r => ?iyR⟩
  case reg => exact completes_of_regs (by fin_cases hp <;> cases r <;> rfl)
  case hl | ix | iy =>
    exact (Accessed.modify hw _ _).completes (f := fun g => g.withF _) (by fin_cases hp <;> rfl)
  case ixR | iyR =>
    exact (Accessed.modify hw _ _).completes (f := fun g => (setR r _ { s with regs := g }).regs.withF _)
      (by fin_cases hp <;> cases r <;> rfl)

/-- Settles O15: BIT reads its operand and writes F, with Y and X open for BIT b,(HL). -/
theorem bitTestsComplete : Obligations.BitTestsComplete := by
  unfold Obligations.BitTestsComplete
  intro s
  refine ⟨fun b r => ?reg, fun b => ?hl, fun d b => ?ix, fun d b => ?iy, fun d b r => ?ixMirror, fun d b r => ?iyMirror⟩
  case reg => exact completes_of_regs rfl
  case hl =>
    exact completesFrom_of_did (t := writeFOpen xyOpen (bitFlags b (s.byteAt (getHl s)) 0#8 s.regs.f) (memCharge (getHl s) s)) rfl
      ((Accessed.read s _).did.nextDraw.setF _) (writeFOpen_closed _ _ _) rfl fun (h : (0x28#8 : Byte) = 0#8) => absurd h (by decide)
  case ix | iy | ixMirror | iyMirror => exact completes_of_read rfl

/-- The complement of a mask, as the exclusive or the model clears a bit with. -/
theorem clearBit_eq (b : BitVec 3) (v : Byte) : clearBit b v = v &&& ~~~(1#8 <<< b.toNat) := by
  rw [clearBit, ← BitVec.allOnes_xor]
  rfl

section
variable {s : State} {i : Instr} {a : Word} {g : Byte → Byte} {v : Byte} {t n : Nat}

theorem completes_of_modifyAt (hw : Memory.wf s.mem = true) (hx : exec i s = .next (spend t n (modifyAt a g s)))
    (hv : g (s.byteAt a) = v) : Completes i s (plain s s.regs [.read a, .write a v] t n) := by
  subst hv
  exact (Accessed.modify hw _ _).completes_unchanged hx

theorem completes_of_modifyAtCopy {r : Reg8} (hw : Memory.wf s.mem = true) (hx : exec i s = .next (spend t n (modifyAtCopy a g r s)))
    (hv : g (s.byteAt a) = v) : Completes i s (plain s (setR r v s).regs [.read a, .write a v] t n) := by
  subst hv
  exact (Accessed.modify hw _ _).completes (f := fun h => (setR r (g (s.byteAt a)) { s with regs := h }).regs) hx

end

/-- Settles O16: SET and RES replace one register or one byte of memory. -/
theorem setAndResetBitsComplete : Obligations.SetAndResetBitsComplete := by
  unfold Obligations.SetAndResetBitsComplete
  intro s hw mask on off atMem atCopy b
  refine ⟨fun r => ?set, ?setHl, fun d => ?setIx, fun d => ?setIy, fun d r => ?setIxR, fun d r => ?setIyR, fun r => ?res, ?resHl,
    fun d => ?resIx, fun d => ?resIy, fun d r => ?resIxR, fun d r => ?resIyR⟩
  case set => exact completes_of_regs rfl
  case res => exact completes_of_regs (congrArg (fun v => Host.Outcome.next (spend 8 2 (setR r v s))) (clearBit_eq b _))
  case setHl | setIx | setIy => exact completes_of_modifyAt hw rfl rfl
  case resHl | resIx | resIy => exact completes_of_modifyAt hw rfl (clearBit_eq b _)
  case setIxR | setIyR => exact completes_of_modifyAtCopy hw rfl rfl
  case resIxR | resIyR => exact completes_of_modifyAtCopy hw rfl (clearBit_eq b _)

/-! ### Index halves and the sub-opcodes 30 to 37 (R811, R814) -/

/-- Settles O21: a load of an index half writes its index register, a load between other registers that register. -/
theorem indexHalvesAndSllComplete : Obligations.IndexHalvesAndSllComplete := by
  unfold Obligations.IndexHalvesAndSllComplete
  intro s
  refine ⟨fun n => ?ixh, fun n => ?ixl, fun n => ?iyh, fun n => ?iyl, fun x hx r src => ?between, fun z => ?sll, fun d z => ?sllIx,
    fun d z => ?sllIy⟩
  case between => exact completes_of_regs (by fin_cases hx <;> cases r <;> cases src <;> rfl)
  all_goals exact completes_of_regs rfl

end Sys2Proof.Proofs.Arithmetic
end

section
/-! Jumps, calls, returns and the port instructions (47_jump_call_return.md, 48_io.md): each instruction completes with the effect of its rule. -/

namespace Sys2Proof.Proofs.Transfers
open Sys2Proof Sys2Proof.Machine Sys2Proof.Proofs.Effects Sys2Proof.Proofs.Loads

/-! ### Jumps (R720 to R730) -/

theorem jumpRelative_eq (e : Byte) (s : State) : jumpRelative e s = setPc (.ofInt 16 (s.regs.pc.toNat + e.toInt)) s := by
  rw [jumpRelative, add_signExtend]

theorem completes_of_jumpRelative {s : State} {i : Instr} {e : Byte} {t n : Nat} (hx : exec i s = .next (spend t n (jumpRelative e s))) :
    Completes i s (plain s { s.regs with pc := .ofInt 16 (s.regs.pc.toNat + e.toInt) } [] t n) := by
  rw [jumpRelative_eq] at hx
  exact completes_of_regs hx

/-- DJNZ, by whether B is 1. -/
theorem djnz_completes (s : State) (e : Byte) :
    if s.regs.b = 1#8 then Completes (.djnz e) s (plain s { s.regs with b := 0#8 } [] 8 2)
    else Completes (.djnz e) s
      (plain s { s.regs with b := s.regs.b - 1#8, pc := .ofInt 16 (s.regs.pc.toNat + e.toInt) } [] 13 2) := by
  have hx : exec (.djnz e) s = .next (if s.regs.b - 1#8 = 0#8 then spend 8 2 (setR .b (s.regs.b - 1#8) s)
      else spend 13 2 (jumpRelative e (setR .b (s.regs.b - 1#8) s))) := rfl
  simp only [sub_one_eq_zero_iff, jumpRelative_eq] at hx
  split
  · next hb =>
    rw [if_pos hb, hb] at hx
    exact completes_of_regs hx
  · next hb =>
    rw [if_neg hb] at hx
    exact completes_of_regs hx

/-- Settles O17: a jump writes PC alone; the conditional ones answer by their condition. -/
theorem jumpsComplete : Obligations.JumpsComplete := by
  unfold Obligations.JumpsComplete
  intro s
  refine ⟨fun nn => ?nn, fun cc nn => ?ccNn, fun e => ?rel, fun p hp e => ?relCc, ?hl, ?ix, ?iy, fun e => djnz_completes s e⟩
  case nn | hl | ix | iy => exact completes_of_regs rfl
  case rel => exact completes_of_jumpRelative rfl
  case ccNn =>
    have hx : exec (.jpCcNn cc nn) s = .next (spend 10 3 (if condHolds cc s then setPc nn s else s)) := rfl
    refine completes_of_regs (hx.trans ?_)
    split <;> rfl
  case relCc =>
    have hx : exec (p.1 e) s = .next (if condHolds p.2 s then spend 12 2 (jumpRelative e s) else spend 7 2 s) := by
      fin_cases hp <;> rfl
    split
    · next holds => exact completes_of_jumpRelative (hx.trans (congrArg _ (if_pos holds)))
    · next fails => exact completes_of_regs (hx.trans (congrArg _ (if_neg fails)))

/-! ### Calls and returns (R735 to R741) -/

section
variable {s : State} {i : Instr} {t n : Nat}

theorem completes_of_call {target : Word} (hw : Memory.wf s.mem = true) (hx : exec i s = .next (spend t n (call target s))) :
    Completes i s
      (plain s { s.regs with sp := s.regs.sp - 2#16, pc := target } (writesWord (s.regs.sp - 2#16) s.regs.pc) t n) := by
  refine completesFrom_of_did hx ((Did.refl s).call hw target) ?_ ?_ fun _ => ?_ <;> simp [call_eq, plain, setSp, setPc]

theorem completes_of_returnFromInterrupt (hx : exec i s = .next (spend t n (returnFromInterrupt s))) :
    Completes i s
      { regs := { s.regs with sp := s.regs.sp + 2#16, pc := s.wordAt s.regs.sp }, ctl := { s.ctl with iff1 := s.ctl.iff2 }
        accesses := readsWord s.regs.sp, t := t, n := n } :=
  completesFrom_of_did hx ((Did.refl s).ret.setIffs _ _) rfl rfl fun _ => rfl

end

/-- The address of RST is eight times its operand. -/
theorem rst_target (t : BitVec 3) : (t.setWidth 16 <<< 3 : Word) = .ofNat 16 (t.toNat * 8) := by
  revert t
  decide

/-- Settles O18: a call pushes PC and jumps, a return pops it. -/
theorem callsAndReturnsComplete : Obligations.CallsAndReturnsComplete := by
  unfold Obligations.CallsAndReturnsComplete
  intro s hw
  refine ⟨fun nn => ?call, fun cc nn => ?callCc, fun t => ?rst, ?ret, fun cc => ?retCc, ?retn, ?reti, fun y => ?mirror⟩
  case call => exact completes_of_call hw rfl
  case callCc =>
    split
    · next holds => exact completes_of_call hw (congrArg _ (if_pos holds))
    · next fails => exact completes_of_regs (congrArg _ (if_neg fails))
  case rst => exact completes_of_call hw (congrArg (fun a => Host.Outcome.next (spend 11 3 (call a s))) (rst_target t))
  case ret => exact completes_of_readWord rfl
  case retCc =>
    split
    · next holds => exact completes_of_readWord (congrArg _ (if_pos holds))
    · next fails => exact completes_of_regs (congrArg _ (if_neg fails))
  case retn | reti | mirror => exact completes_of_returnFromInterrupt rfl

/-! ### Single port instructions (R770, R771, R776, R777) -/

/-- An instruction that writes registers after its port access, which has not raised the fault. -/
theorem completesFrom_of_port {s b : State} {i : Instr} {rest : State → State} {g : Regs} {t n : Nat} (hf : b.fault = none)
    (hx : exec i s = .next (unlessFault b rest)) (hr : rest b = spend t n { b with regs := g }) :
    CompletesFrom i s b (plain b g [] t n) := by
  rw [unlessFault_none hf, hr] at hx
  exact completesFrom_of_did hx ((Did.refl b).mapRegs fun _ => g) rfl rfl fun _ => rfl

/-- Settles O19: IN writes its register and flags after the port access, OUT nothing. -/
theorem portInstructionsComplete : Obligations.PortInstructionsComplete := by
  unfold Obligations.PortInstructionsComplete
  intro s
  exact ⟨fun n hf => completesFrom_of_port hf rfl rfl, fun r hf => completesFrom_of_port hf rfl rfl,
    fun hf => completesFrom_of_port hf rfl rfl, fun n hf => completesFrom_of_port hf rfl rfl,
    fun r hf => completesFrom_of_port hf rfl rfl, fun hf => completesFrom_of_port hf rfl rfl⟩

/-! ### Block port instructions (R772 to R782) -/

/-- From the port access of an iteration, which left `b`, the iteration goes to `u`: the accesses of `l` are made, and outside the flags left
open the registers are `g`. -/
structure Iterated (b u : State) (g : Regs) (l : List Access) : Prop where
  did : Did b u l
  regs : u.regs.closed blockIoOpen = g.closed blockIoOpen
  ctl : u.ctl = b.ctl
  fault : b.fault = none

section
variable {s b u : State} {g : Regs} {l : List Access} {i : Instr}

theorem Iterated.unlessFault (h : Iterated b u g l) (rest : State → State) : unlessFault u rest = rest u :=
  unlessFault_none (h.did.fault.trans h.fault) rest

theorem Iterated.count (h : Iterated b u g l) : u.regs.b = g.b := (congrArg Regs.b h.regs :)

theorem Iterated.completes {v : State} {r : Regs} {t : Nat} (h : Iterated b v r l) (hx : exec i s = .next (spend t 4 v)) :
    CompletesFrom i s b { regs := r, openF := 0xBD#8, ctl := b.ctl, accesses := l, t := t, n := 4 } :=
  completesFrom_of_did hx h.did h.regs h.ctl fun (k : (0xBD#8 : Byte) = 0#8) => absurd k (by decide)

/-- The instruction is to run again. -/
theorem Iterated.again (h : Iterated b u g l) : Iterated b (repeatInstr u) { g with pc := g.pc - 2#16 } l where
  did := h.did.setPc _
  regs := by
    have pc : u.regs.pc = g.pc := (congrArg Regs.pc h.regs :)
    rw [← pc]
    exact congrArg (fun r : Regs => { r with pc := u.regs.pc - 2#16 }) h.regs
  ctl := h.ctl
  fault := h.fault

/-- One iteration of a form that does not repeat. -/
theorem Iterated.once {t : Nat} (h : Iterated b u g l) (hx : exec i s = .next (Machine.unlessFault u (spend t 4))) :
    CompletesFrom i s b { regs := g, openF := 0xBD#8, ctl := b.ctl, accesses := l, t := t, n := 4 } := by
  rw [h.unlessFault] at hx
  exact h.completes hx

/-- The last iteration of a repeating form. -/
theorem Iterated.last (h : Iterated b u g l) (hb : g.b = 0#8) (hx : exec i s = .next (Machine.unlessFault u repeatIo)) :
    CompletesFrom i s b { regs := g, openF := 0xBD#8, ctl := b.ctl, accesses := l, t := 16, n := 4 } := by
  rw [h.unlessFault, repeatIo, if_pos (h.count.trans hb)] at hx
  exact h.completes hx

/-- Any other iteration of a repeating form. -/
theorem Iterated.more (h : Iterated b u g l) (hb : g.b ≠ 0#8) (hx : exec i s = .next (Machine.unlessFault u repeatIo)) :
    CompletesFrom i s b
      { regs := { g with pc := g.pc - 2#16 }, openF := 0xBD#8, ctl := b.ctl, accesses := l, t := 21, n := 4 } := by
  rw [h.unlessFault, repeatIo, if_neg (mt h.count.symm.trans hb)] at hx
  exact h.again.completes hx

end

/-- The flags a block port instruction fixes: N, and Z where the count is 0. -/
theorem blockIoFlags_closed (count : Byte) :
    blockIoFlags count &&& ~~~blockIoOpen = (if count = 0#8 then 0x42#8 else 0x02#8 : Byte) &&& ~~~blockIoOpen := by
  by_cases h : count = 0#8 <;> simp [blockIoFlags, packF, bit, blockIoOpen, h]

theorem blockIn_iterated {s : State} (hw : Memory.wf s.mem = true) (hf : (portRead (getBc s) s).2.fault = none) (delta : Word) :
    Iterated (portRead (getBc s) s).2 (blockIn delta s)
      { (setHl (getHl s + delta) (portRead (getBc s) s).2).regs with
        b := s.regs.b - 1#8, f := if s.regs.b - 1#8 = 0#8 then 0x42#8 else 0x02#8, pc := s.regs.pc }
      [.write (getHl s) (portRead (getBc s) s).1] := by
  have hp := portOnly_portRead (getBc s) s
  have hx : blockIn delta s = writeFOpen blockIoOpen (blockIoFlags (s.regs.b - 1#8)) (setR .b (s.regs.b - 1#8)
      (setHl (getHl s + delta) (memWriteByte (getHl s) (portRead (getBc s) s).1 (portRead (getBc s) s).2))) := by
    simp only [blockIn, unlessFault_none hf, hp.regs, getHl]
  rw [hx]
  generalize portRead (getBc s) s = p at *
  refine ⟨?_, ?_, ?_, hf⟩
  · exact ((((Did.refl _).write (hp.mem hw) _ _).setHl _).setR _ _).nextDraw.setF _
  · refine (writeFOpen_closed _ _ _).trans ?_
    simp [Regs.closed, blockIoFlags_closed, setR, setHl, hp.regs]
  · simp [writeFOpen_eq, setF, setR, setHl]

/-- B has counted down before the port access of an output. -/
theorem blockOut_count {s m q : State} (hm : m = setR .b (s.regs.b - 1#8) (memCharge (getHl s) s))
    (hq : q = portWrite (getBc m) (s.byteAt (getHl s)) m) : q.regs.b = s.regs.b - 1#8 := by
  rw [hq, (portOnly_portWrite _ _ m).regs, hm]
  rfl

theorem blockOut_iterated {s m q : State} (hm : m = setR .b (s.regs.b - 1#8) (memCharge (getHl s) s))
    (hq : q = portWrite (getBc m) (s.byteAt (getHl s)) m) (hf : q.fault = none) (delta : Word) :
    Iterated q (blockOut delta s)
      { (setHl (getHl s + delta) q).regs with f := if s.regs.b - 1#8 = 0#8 then 0x42#8 else 0x02#8, pc := s.regs.pc } [] := by
  have hp : q.regs = m.regs := hq ▸ (portOnly_portWrite _ _ m).regs
  have hx : blockOut delta s = writeFOpen blockIoOpen (blockIoFlags (s.regs.b - 1#8)) (setHl (getHl s + delta) q) := by
    have e : blockOut delta s =
      unlessFault q fun u => writeFOpen blockIoOpen (blockIoFlags u.regs.b) (setHl (getHl u + delta) u) := by rw [hq, hm]; rfl
    have hl : getHl q = getHl s := by rw [getHl, hp, hm]; rfl
    rw [e, unlessFault_none hf, hl, blockOut_count hm hq]
  rw [hx]
  refine ⟨((Did.refl q).setHl _).nextDraw.setF _, ?_, rfl, hf⟩
  refine (writeFOpen_closed _ _ _).trans ?_
  simp [Regs.closed, blockIoFlags_closed, setHl, hp, hm, setR]

/-- Settles O20: one iteration from the port access on, and a repeating form runs again while B is not 0. -/
theorem blockPortInstructionsComplete : Obligations.BlockPortInstructionsComplete := by
  unfold Obligations.BlockPortInstructionsComplete
  intro s hw
  refine ⟨fun hf => ?_, fun hf => ?_⟩
  · have h := blockIn_iterated hw hf
    exact ⟨(h _).once rfl, (h _).once rfl, fun hb => ⟨(h _).last hb rfl, (h _).last hb rfl⟩,
      fun hb => ⟨(h _).more hb rfl, (h _).more hb rfl⟩⟩
  · have h := blockOut_iterated rfl rfl hf
    have count := blockOut_count (s := s) rfl rfl
    exact ⟨(h _).once rfl, (h _).once rfl, fun hb => ⟨(h _).last (count.trans hb) rfl, (h _).last (count.trans hb) rfl⟩,
      fun hb => ⟨(h _).more (count.trans_ne hb) rfl, (h _).more (count.trans_ne hb) rfl⟩⟩

end Sys2Proof.Proofs.Transfers
end

section
/-! The controller's commands, ports and status register (62_fdc.md R1100 to R1103, R1115 to R1141). -/

namespace Sys2Proof.Proofs.FdcCommands
open Sys2Proof Sys2Proof.Machine Sys2Proof.Proofs.FdcStatus Sys2Proof.Proofs.FdcRegisters Sys2Proof.Proofs.FdcTransfer

/-! ### Commands written while the controller is not busy (R1115, R1116) -/

section
variable {s : State} {code : Byte} {side : Bool} {flags : BitVec 4} {i : Instr}

theorem fdcCommand_of_idle (h : s.fdc.status.getLsbD 0 = false) (effect : State → State) :
    fdcCommand code side flags effect s = effect (acceptCommand code side flags s) :=
  if_neg (by rw [fdcBusy, h]; simp)

/-- The common part and the motor: MOTOR_ON is the one bit left. -/
theorem engageMotor_acceptCommand :
    engageMotor (acceptCommand code side flags s) = s.mapFdc (engagedFdc code side flags 0x80#8) := by
  have hstatus : s.fdc.status &&& 0x80#8 ||| 0x80#8 = 0x80#8 := by
    ext i hi
    simp only [BitVec.getElem_or, BitVec.getElem_and]
    cases s.fdc.status[i] <;> simp
  exact congrArg (fun v => s.mapFdc (engagedFdc code side flags v)) hstatus

theorem exec_engaged (h : s.fdc.status.getLsbD 0 = false) {effect : State → State}
    (hx : exec i s = .next (fdcCommand code side flags (fun s => effect (engageMotor s)) s)) :
    exec i s = .next (effect (s.mapFdc (engagedFdc code side flags 0x80#8))) := by
  rw [hx, fdcCommand_of_idle h, engageMotor_acceptCommand]

end

/-! ### Type 1: the head moves (R1120 to R1128) -/

theorem stepHead_in {s : State} (h : s.fdc.dirIn = true) (update : Bool) :
    stepHead update s =
      s.mapFdc fun f => { f with head := min 255 (f.head + 1), track := if update then f.track + 1#8 else f.track } := by
  simp [stepHead, State.mapFdc, h, Config.headMax]

theorem stepHead_out {s : State} (h : s.fdc.dirIn = false) (update : Bool) :
    stepHead update s = s.mapFdc fun f => { f with head := f.head - 1, track := if update then f.track - 1#8 else f.track } := by
  simp [stepHead, State.mapFdc, h]

theorem seekHead_up {s : State} (h : s.fdc.track.toNat < s.fdc.data.toNat) :
    seekHead s = s.mapFdc fun f =>
      { f with dirIn := true, head := min 255 (f.head + (f.data.toNat - f.track.toNat)), track := f.data } :=
  congrArg (fun g => { s with fdc := g }) (if_pos h)

theorem seekHead_down {s : State} (h : s.fdc.data.toNat < s.fdc.track.toNat) :
    seekHead s = s.mapFdc fun f => { f with dirIn := false, head := f.head - (f.track.toNat - f.data.toNat), track := f.data } :=
  congrArg (fun g => { s with fdc := g }) ((if_neg (Nat.lt_asymm h)).trans (if_pos h))

theorem seekHead_there {s : State} (h : s.fdc.track = s.fdc.data) : seekHead s = s := by
  simp [seekHead, State.mapFdc, h]

/-- Settles O22: each command of type 1 engages the motor and then moves the head. -/
theorem fdcSeekFamilyCompletes : Obligations.FdcSeekFamilyCompletes := by
  unfold Obligations.FdcSeekFamilyCompletes
  intro s idle side flags after inward outward inwardUpdate outwardUpdate
  have moved {i : Instr} {code : Byte} {move : State → State} {t : State}
      (hx : exec i s = .next (fdcCommand code side flags (fun s => move (engageMotor s)) s))
      (ht : move (s.mapFdc (engagedFdc code side flags 0x80#8)) = t) : exec i s = .next t := by rw [exec_engaged idle hx, ht]
  refine ⟨?restore, fun h => ?up, fun h => ?down, fun h => ?there, ?step, ?stepUpdate, ?inn, ?inUpdate, ?out, ?outUpdate⟩
  case restore => exact moved rfl rfl
  case up => exact moved rfl (seekHead_up h)
  case down => exact moved rfl (seekHead_down h)
  case there => exact moved rfl (seekHead_there h)
  case step =>
    cases hd : s.fdc.dirIn
    · exact moved rfl (stepHead_out (by exact hd) false)
    · exact moved rfl (stepHead_in (by exact hd) false)
  case stepUpdate =>
    cases hd : s.fdc.dirIn
    · exact moved rfl (stepHead_out (by exact hd) true)
    · exact moved rfl (stepHead_in (by exact hd) true)
  case inn => exact moved (move := fun s => stepHead false (setDirIn true s)) rfl (stepHead_in rfl false)
  case inUpdate => exact moved (move := fun s => stepHead true (setDirIn true s)) rfl (stepHead_in rfl true)
  case out => exact moved (move := fun s => stepHead false (setDirIn false s)) rfl (stepHead_out rfl false)
  case outUpdate => exact moved (move := fun s => stepHead true (setDirIn false s)) rfl (stepHead_out rfl true)

/-! ### Types 2 and 3: the command starts (R1130 to R1138) -/

section
variable {s : State} {code : Byte} {side : Bool} {flags : BitVec 4} {i : Instr}

/-- A command that is no write goes busy. -/
theorem exec_start_read (h : s.fdc.status.getLsbD 0 = false) (hcode : fdcIsWrite code = false)
    (hx : exec i s = .next (fdcCommand code side flags startBusyCommand s)) :
    exec i s = .next (s.mapFdc (engagedFdc code side flags 0x81#8)) := by
  rw [hx, fdcCommand_of_idle h, startBusyCommand, engageMotor_acceptCommand]
  simp [engagedFdc, acceptedFdc, hcode, orStatus, setStatus, State.mapFdc, diskLoadTrack, stBusy]

theorem orStatus_engagedFdc {st v : Byte} (h : 0x80#8 ||| st = v) :
    orStatus st (s.mapFdc (engagedFdc code side flags 0x80#8)) = s.mapFdc (engagedFdc code side flags v) := by
  subst h
  rfl

/-- A write command asks the disk whether it is read-only, and then goes busy or ends. -/
theorem exec_start_write (h : s.fdc.status.getLsbD 0 = false) (hcode : fdcIsWrite code = true)
    (hx : exec i s = .next (fdcCommand code side flags startBusyCommand s)) {answer : Bool × State}
    (hanswer : diskIsReadOnly (s.mapFdc (engagedFdc code side flags 0x80#8)) = answer) :
    exec i s = .next (orStatus (if answer.1 then 0x40#8 else 0x01#8) answer.2) := by
  have hcmd : fdcIsWrite (s.mapFdc (engagedFdc code side flags 0x80#8)).fdc.cmd = true := hcode
  rw [hx, fdcCommand_of_idle h, startBusyCommand, engageMotor_acceptCommand]
  simp only [hcmd, if_true, hanswer]
  cases answer.1 <;> rfl

end

theorem diskIsReadOnly_of_none {s : State} (h : s.fdc.disk = none) : diskIsReadOnly s = (false, s) := by
  simp [diskIsReadOnly, h]

theorem diskIsReadOnly_of_image {s : State} {d : DiskImage} (h : s.fdc.disk = some (.image d)) : diskIsReadOnly s = (d.readOnly, s) := by
  simp [diskIsReadOnly, h, Disk.isReadOnly, rawAnswer]

theorem diskIsReadOnly_of_device {s : State} {d : DiskDevice} (h : s.fdc.disk = some (.device d)) :
    diskIsReadOnly s = ((Config.diskAnswer s.draws).yes, s.nextDraw) := by
  simp [diskIsReadOnly, h, Disk.isReadOnly, rawAnswer]

/-- Settles O23: a write command by the disk in the drive. -/
theorem fdcTransferCommandsComplete : Obligations.FdcTransferCommandsComplete := by
  unfold Obligations.FdcTransferCommandsComplete
  intro s idle side flags
  refine ⟨fun p hp => ?read, fun p hp => ?write⟩
  case read => exact exec_start_read idle (by fin_cases hp <;> rfl) (by fin_cases hp <;> rfl)
  case write =>
    have hcode : fdcIsWrite p.2 = true := by fin_cases hp <;> rfl
    have hx : exec (p.1 side flags) s = .next (fdcCommand p.2 side flags startBusyCommand s) := by fin_cases hp <;> rfl
    refine ⟨fun hdisk => ?_, fun d hdisk => ?_, fun d hdisk => ?_⟩
    · rw [exec_start_write idle hcode hx (diskIsReadOnly_of_none (by exact hdisk))]
      exact congrArg _ (orStatus_engagedFdc (st := 0x01#8) rfl)
    · rw [exec_start_write idle hcode hx (diskIsReadOnly_of_image (by exact hdisk))]
      cases d.readOnly
      · exact congrArg _ (orStatus_engagedFdc (st := 0x01#8) rfl)
      · exact congrArg _ (orStatus_engagedFdc (st := 0x40#8) rfl)
    · refine ⟨if (Config.diskAnswer s.draws).yes then 0xC0#8 else 0x81#8, ?_, ?_⟩
      · split <;> simp
      · rw [exec_start_write idle hcode hx (diskIsReadOnly_of_device (by exact hdisk))]
        rw [State.mapFdc_draws]
        cases (Config.diskAnswer s.draws).yes
        · exact congrArg (fun t : State => (Host.Outcome.next t.nextDraw : Result)) (orStatus_engagedFdc (st := 0x01#8) rfl)
        · exact congrArg (fun t : State => (Host.Outcome.next t.nextDraw : Result)) (orStatus_engagedFdc (st := 0x40#8) rfl)

/-! ### Ports (R1100 to R1103) -/

theorem isFdcPort_of_range {port : Word} (lo : 0xE0 ≤ (loByte port).toNat) (hi : (loByte port).toNat ≤ 0xE7) : isFdcPort port = true := by
  have range : ∀ v : Byte, 0xE0 ≤ v.toNat → v.toNat ≤ 0xE7 → (v &&& 0xF8#8 == 0xE0#8) = true := by decide
  exact range _ lo hi

/-- Writing a command byte is executing the command it decodes to. -/
theorem exec_decodeFdcCommand (side : Bool) (v : Byte) (s : State) :
    exec (decodeFdcCommand side v) s = .next (fdcCommandWrite side v s) := by
  simp only [decodeFdcCommand, fdcCommandWrite]
  generalize v.toNat / 16 = n
  obtain _ | _ | _ | _ | _ | _ | _ | _ | _ | _ | _ | _ | _ | _ | _ | n := n <;> rfl

/-- Settles O25: the charge of a port below the ASIC's, then the register of the two low bits. -/
theorem fdcPortsReachRegisters : Obligations.FdcPortsReachRegisters := by
  unfold Obligations.FdcPortsReachRegisters
  intro s port v lo hi c
  have hfdc := isFdcPort_of_range lo hi
  have hcharge : portCharge port s = c :=
    Memory.portCharge_eq_of_portChargedCycle (Memory.portChargedCycle_of_not_asic s (by omega))
  have hwrite : portWrite port v s = fdcOut port v c := by simp only [portWrite, hcharge, hfdc, if_true]
  have hread : portRead port s = fdcIn port c := by simp only [portRead, hcharge, hfdc, if_true]
  rw [hwrite, hread]
  refine ⟨fun h => ?command, fun h => ?track, fun h => ?sector, fun h => ?data⟩ <;> simp only [fdcOut, fdcIn, fdcReg, h, and_true]
  case command => exact exec_decodeFdcCommand _ v c
  case track | sector => exact ⟨rfl, rfl⟩

/-! ### The status register (R1140, R1141) -/

/-- A status read that runs no command on. -/
theorem fdcStatusRead_at_rest {s : State} (h : s.fdc.status.getLsbD 0 = false ∨ s.fdc.status.getLsbD 1 = true) :
    fdcStatusRead s =
      if statusIsType1 s.fdc.cmd then
        (s.fdc.status ||| statusBit (s.fdc.head == 0) stTrack00 ||| statusBit (indexPulse s).1 stIndex, (indexPulse s).2)
      else (s.fdc.status, s) := by
  have rests : ¬(fdcBusy s && !fdcDrq s) = true := by
    obtain h | h := h <;> rw [fdcBusy, fdcDrq, h] <;> simp
  simp only [fdcStatusRead, if_neg rests]

theorem statusIsType1_iff (cmd : Byte) : statusIsType1 cmd = true ↔ cmd.getLsbD 7 = false ∨ cmd = 0xD0#8 := by
  rw [statusIsType1, Bool.or_eq_true, Bool.not_eq_true', beq_iff_eq]

/-- The index pulse of a drive that is still, or empty. -/
theorem indexPulse_of_still {s : State} (h : ¬(s.fdc.status.getLsbD 7 = true ∧ s.fdc.disk.isSome = true)) : indexPulse s = (false, s) := by
  have still : (!fdcMotorOn s || s.fdc.disk.isNone) = true := by
    rw [fdcMotorOn, ← Option.not_isSome]
    cases h7 : s.fdc.status.getLsbD 7 <;> simp_all
  rw [indexPulse, if_pos still]

/-- A counted read. -/
theorem indexPulse_of_turning {s : State} (h : s.fdc.status.getLsbD 7 = true ∧ s.fdc.disk.isSome = true) :
    indexPulse s = (decide ((s.fdc.idxCount + 1) % 1024 = 0), { s with fdc := { s.fdc with idxCount := s.fdc.idxCount + 1 } }) := by
  have turns : ¬(!fdcMotorOn s || s.fdc.disk.isNone) = true := by
    rw [fdcMotorOn, ← Option.not_isSome, h.1, h.2]
    decide
  rw [indexPulse, if_neg turns]
  rfl

/-- Settles O26: the meaning of the status bits by the command, then the index pulse by the drive. -/
theorem fdcStatusReadAtRest : Obligations.FdcStatusReadAtRest := by
  unfold Obligations.FdcStatusReadAtRest
  intro s rest seek counts track00
  have htrack : statusBit (s.fdc.head == 0) stTrack00 = track00 := by simp [statusBit, track00, stTrack00]
  rw [fdcStatusRead_at_rest rest, htrack]
  refine ⟨fun h => if_neg (mt (statusIsType1_iff _).mp h), fun h hstill => ?_, fun h hturns => ?_⟩
  · rw [if_pos ((statusIsType1_iff _).mpr h), indexPulse_of_still hstill]
    simp [statusBit]
  · rw [if_pos ((statusIsType1_iff _).mpr h), indexPulse_of_turning hturns]
    simp [statusBit, stIndex]

end Sys2Proof.Proofs.FdcCommands
end

section
/-! Lazy execution on every disk (62_fdc.md R1142 to R1148): how the sector search ends, what a command in flight can leave, and that the disk
keeps its sectors' bytes. -/

namespace Sys2Proof.Proofs.FdcLazy
open Sys2Proof Sys2Proof.Machine Sys2Proof.Proofs.FdcStatus Sys2Proof.Proofs.FdcRegisters Sys2Proof.Proofs.FdcTransfer

/-! ### The sector search (R1145, R1106) -/

/-- The scan of the reference disk, with no sector asked for whose ID is good: whether a matching ID was bad. -/
theorem scanSector_of_find_none {ahead : List Sector} {last : Option Sector} {s : State} (h : Iterates s ahead last)
    (hx : ahead.find? (fun y => matchesId s.fdc y && !y.idCrcErr) = none) {fuel : Nat} (hfuel : ahead.length < fuel) (crcSeen : Bool) :
    (scanSector fuel crcSeen s).1 = (none, crcSeen || ahead.any (matchesId s.fdc)) := by
  induction ahead generalizing s last fuel crcSeen with
  | nil =>
    obtain ⟨n, rfl⟩ : ∃ n, fuel = n + 1 := ⟨fuel - 1, by omega⟩
    simp [scanSector_of_end (diskFindNext_of_end h)]
  | cons y rest ih =>
    obtain ⟨n, rfl⟩ : ∃ n, fuel = n + 1 := ⟨fuel - 1, by omega⟩
    obtain ⟨-, hiter⟩ := diskFindNext_of_ahead h
    have hmatches : matchesId (diskFindNext s).2.fdc = matchesId s.fdc := by rw [(onlyDisk_diskFindNext s).fdc]; rfl
    rw [List.find?_eq_none, List.forall_mem_cons] at hx
    obtain ⟨hpass, hrest⟩ := hx
    rw [← List.find?_eq_none] at hrest
    rw [scanSector_of_ahead h, if_neg (by simpa using hpass), ih hiter (by rwa [hmatches]) (Nat.lt_of_succ_lt_succ hfuel), hmatches,
      List.any_cons, Bool.or_assoc]

/-- A search without a match ends the command, with CRC_ERROR where a matching ID was bad. -/
theorem findSector_of_find_none {s : State} {d : DiskImage} (hdisk : s.fdc.disk = some (.image d))
    (hx : (sectorsOf s d).find? (fun y => matchesId s.fdc y && !y.idCrcErr) = none) :
    ∃ t, OnlyDisk s t ∧
      findSector s = (none, endCommand (stRecordNotFound ||| statusBit ((sectorsOf s d).any (matchesId s.fdc)) stCrcError) t) := by
  have hinit := onlyDisk_diskFindInit s
  have hmatches : matchesId (diskFindInit s).2.fdc = matchesId s.fdc := by rw [hinit.fdc]; rfl
  cases hyes : (diskFindInit s).1 with
  | false => exact ⟨_, hinit, by simp [findSector, hyes, sectorsOf_eq_nil hdisk hyes]⟩
  | true =>
    have hiter := diskFindInit_iterates hdisk
    have hscan := scanSector_of_find_none hiter (by rwa [hmatches]) (length_lt_scanBound hiter) false
    exact ⟨_, hinit.trans (onlyDisk_scanSector (scanBound (diskFindInit s).2) false _), by simp [findSector, hyes, hscan, hmatches]⟩

/-- The reference disk in the drive has the tracks `l`. -/
def HasTracks (l : List TrackEntry) (s : State) : Prop := ∃ e : DiskImage, s.fdc.disk = some (.image e) ∧ e.tracks = l

section
variable {l : List TrackEntry} {s : State}

theorem HasTracks.diskFindInit (h : HasTracks l s) : HasTracks l (diskFindInit s).2 := by
  obtain ⟨e, he, rfl⟩ := h
  have hinit : (Machine.diskFindInit s).2.fdc.disk = some (.image (imageFindInit (headKey s) e).2) := by
    simp [Machine.diskFindInit, he, rawAnswer, Disk.findInit, setDisk]
  refine ⟨_, hinit, ?_⟩
  unfold imageFindInit
  split <;> rfl

theorem HasTracks.diskFindNext (h : HasTracks l s) : HasTracks l (diskFindNext s).2 := by
  obtain ⟨e, he, rfl⟩ := h
  have hnext : (Machine.diskFindNext s).2.fdc.disk = some (.image (imageFindNext e).2) := by
    simp [Machine.diskFindNext, he, rawAnswer, Disk.findNext, setDisk]
  refine ⟨_, hnext, ?_⟩
  unfold imageFindNext
  split <;> rfl

end

/-- What every `FindNext` keeps, a scan keeps. -/
theorem scanSector_keeps {P : State → Prop} (next : ∀ s, P s → P (diskFindNext s).2) (fuel : Nat) (crcSeen : Bool) {s : State} (h : P s) :
    P (scanSector fuel crcSeen s).2 := by
  induction fuel generalizing crcSeen s with
  | zero => exact h
  | succ n ih =>
    have hn := next s h
    cases hfound : (diskFindNext s).1 with
    | none => exact scanSector_of_end hfound ▸ hn
    | some found =>
      rw [scanSector_of_next hfound]
      split_ifs
      · exact hn
      · exact ih _ hn
      · exact ih _ hn

/-- What `FindInit`, every `FindNext` and the end of a command keep, a search keeps. -/
theorem findSector_keeps {P : State → Prop} (init : ∀ s, P s → P (diskFindInit s).2) (next : ∀ s, P s → P (diskFindNext s).2)
    (fin : ∀ st s, P s → P (endCommand st s)) {s : State} (h : P s) : P (findSector s).2 := by
  have hscan : P (if (diskFindInit s).1 then scanSector (scanBound (diskFindInit s).2) false (diskFindInit s).2
      else ((none, false), (diskFindInit s).2)).2 := by
    split
    · exact scanSector_keeps next _ _ (init s h)
    · exact init s h
  unfold findSector
  simp only
  split
  · exact hscan
  · exact fin _ _ hscan

/-- Settles O30: the scan in spin order stops at the first good match, and else has seen every match. -/
theorem fdcSectorSearch : Obligations.FdcSectorSearch := by
  unfold Obligations.FdcSectorSearch
  intro s d hdisk
  refine ⟨fun x hx => ?_, fun hx => ?_⟩
  · obtain ⟨t, rest, ht, ⟨e, he, -, hlast⟩, hfind⟩ := findSector_of_find hdisk hx
    have htracks : HasTracks d.tracks (findSector s).2 :=
      findSector_keeps (fun _ => HasTracks.diskFindInit) (fun _ => HasTracks.diskFindNext) (fun _ _ h => h) ⟨d, hdisk, rfl⟩
    rw [hfind] at htracks ⊢
    obtain ⟨e', he', htracks⟩ := htracks
    obtain rfl : e = e' := by simpa [he] using he'
    exact ⟨rfl, by rw [ht.fdc], e, he, hlast, htracks⟩
  · obtain ⟨t, ht, hfind⟩ := findSector_of_find_none hdisk hx
    rw [hfind]
    refine ⟨rfl, ?_⟩
    have hstatus : t.fdc.status = s.fdc.status := by rw [ht.fdc]
    simp only [endCommand, setStatus, State.mapFdc_fdc, hstatus, ← BitVec.or_assoc]
    rfl

/-! ### The disk keeps a byte in every data field -/

theorem findTrack_mem {k : TrackKey} {l : List TrackEntry} {ss : List Sector} (h : findTrack k l = some ss) :
    ∃ e ∈ l, e.sectors = ss := by
  induction l with
  | nil => simp [findTrack] at h
  | cons e rest ih =>
    rw [findTrack] at h
    split at h
    · exact ⟨e, List.mem_cons_self, Option.some.inj h⟩
    · obtain ⟨e', he', hss⟩ := ih h
      exact ⟨e', List.mem_cons_of_mem _ he', hss⟩

/-- Every data field of the disk in the drive has a byte in it. -/
def DiskOkIn (s : State) : Prop := diskOk s.fdc.disk

section
variable {s : State}

theorem DiskOkIn.diskFindInit (h : DiskOkIn s) : DiskOkIn (diskFindInit s).2 := by
  unfold Machine.diskFindInit
  split
  · exact h
  · next d hd =>
    rw [DiskOkIn, hd] at h
    cases d with
    | device d => trivial
    | image d =>
      obtain ⟨htracks, -⟩ := h
      show diskOk (some (.image (imageFindInit _ d).2))
      unfold imageFindInit
      split
      · next ss hss =>
        obtain ⟨e, he, rfl⟩ := findTrack_mem hss
        exact ⟨htracks, htracks e he⟩
      · exact ⟨htracks, by simp⟩

theorem DiskOkIn.diskFindNext (h : DiskOkIn s) : DiskOkIn (diskFindNext s).2 := by
  unfold Machine.diskFindNext
  split
  · exact h
  · next d hd =>
    rw [DiskOkIn, hd] at h
    cases d with
    | device d =>
      simp only [Disk.findNext]
      split <;> trivial
    | image d =>
      show diskOk (some (.image (imageFindNext d).2))
      unfold imageFindNext
      split
      · exact h
      · exact h

theorem DiskOkIn.findSector (h : DiskOkIn s) : DiskOkIn (findSector s).2 :=
  findSector_keeps (fun _ => DiskOkIn.diskFindInit) (fun _ => DiskOkIn.diskFindNext) (fun _ _ h => h) h

theorem diskReadData_fdc (s : State) : (diskReadData s).2.fdc = s.fdc := by
  unfold diskReadData
  split
  · rfl
  · next d _ => cases d <;> rfl

theorem DiskOkIn.scanTrack (h : DiskOkIn s) (fuel : Nat) : DiskOkIn (scanTrack fuel s).2 := by
  induction fuel generalizing s with
  | zero => exact h
  | succ n ih =>
    have hnext := h.diskFindNext
    simp only [Machine.scanTrack]
    split
    · exact hnext
    · exact ih (by rwa [DiskOkIn, diskReadData_fdc])

theorem DiskOkIn.trackRead (h : DiskOkIn s) : DiskOkIn (trackRead s).2 := by
  unfold FdcTransfer.trackRead
  split
  · exact h.diskFindInit.scanTrack _
  · exact h.diskFindInit

/-- What a disk reads off a sector with a data field has a byte in it. -/
theorem length_diskReadData_pos (h : DiskOkIn s) (hok : (diskReadData s).1.2 &&& stRecordNotFound = 0#8) :
    0 < (diskReadData s).1.1.length := by
  have hmissing : ¬stRecordNotFound &&& stRecordNotFound = 0#8 := by decide
  unfold diskReadData at hok ⊢
  split at hok
  · exact absurd hok hmissing
  · next d hd =>
    rw [DiskOkIn, hd] at h
    cases d with
    | image d =>
      obtain ⟨-, hcur⟩ := h
      simp only [Disk.readData, imageReadData] at hok ⊢
      split at hok
      · exact absurd hok hmissing
      · next x hx =>
        split at hok
        · next hdata =>
          have hmem : x ∈ d.cur := by
            unfold imageLast at hx
            split at hx
            · contradiction
            · exact List.mem_of_getElem? hx
          simpa [hx, hdata] using hcur x hmem hdata
        · exact absurd hok hmissing
    | device d =>
      simp only [Disk.readData] at hok ⊢
      split at hok
      · exact absurd hok hmissing
      · simp only [if_pos hok]
        simp [padTo, sectorSize_eq]

end

/-! ### What a command in flight can leave (R1142) -/

/-- From `f` a command has run on to `g`: it is over with an error bit, or has armed a transfer of at least one byte. -/
def RanOn (f g : Fdc) : Prop :=
  (∃ st id, st &&& 0x78#8 ≠ 0#8 ∧ st &&& ~~~0x78#8 = 0#8 ∧ Ended f g st id) ∨
    ∃ buf len held shown id, 0 < len ∧ held &&& ~~~stCrcError = 0#8 ∧ shown &&& ~~~stDeletedData = 0#8 ∧
      Armed f g buf len held shown id

theorem and_and_not (v m : Byte) : v &&& m &&& ~~~m = 0#8 := by
  rw [BitVec.and_assoc, BitVec.and_not_self]
  exact BitVec.and_zero

/-- A status within the error bits and not zero has one of them. -/
theorem error_of_ne_zero {st : Byte} (herr : st &&& ~~~0x78#8 = 0#8) (h : st ≠ 0#8) : st &&& 0x78#8 ≠ 0#8 := by
  revert st
  decide

section
variable {f g : Fdc} {id : FoundId}

theorem RanOn.not_found (bad : Bool) (h : Ended f g (stRecordNotFound ||| statusBit bad stCrcError) id) : RanOn f g := by
  have error : ∀ b, (stRecordNotFound ||| statusBit b stCrcError) &&& 0x78#8 ≠ 0#8 ∧
      (stRecordNotFound ||| statusBit b stCrcError) &&& ~~~0x78#8 = 0#8 := by decide
  exact .inl ⟨_, _, (error bad).1, (error bad).2, h⟩

theorem RanOn.armed {buf : List Byte} {len : Nat} (hlen : 0 < len) (h : Armed f g buf len 0#8 0#8 id) : RanOn f g :=
  .inr ⟨_, _, _, _, _, hlen, by decide, by decide, h⟩

end

/-- The search ends the command, or answers an ID. -/
theorem findSector_ends_or_finds (s : State) :
    (∃ t bad, OnlyDisk s t ∧ findSector s = (none, endCommand (stRecordNotFound ||| statusBit bad stCrcError) t)) ∨
      ∃ t id, OnlyDisk s t ∧ findSector s = (some id, t) := by
  have hlooked : OnlyDisk s (if (diskFindInit s).1 then scanSector (scanBound (diskFindInit s).2) false (diskFindInit s).2
      else ((none, false), (diskFindInit s).2)).2 := by
    split
    · exact (onlyDisk_diskFindInit s).trans (onlyDisk_scanSector ..)
    · exact onlyDisk_diskFindInit s
  unfold findSector
  simp only
  split
  · exact .inr ⟨_, _, hlooked, rfl⟩
  · exact .inl ⟨_, _, hlooked, rfl⟩

section
variable {s : State}

theorem execRead_ranOn (h : DiskOkIn s) : RanOn s.fdc (execRead s).fdc ∧ DiskOkIn (execRead s) := by
  have hkept := h.findSector
  obtain ⟨t, bad, ht, hfind⟩ | ⟨t, id, ht, hfind⟩ := findSector_ends_or_finds s <;> rw [hfind] at hkept
  · exact execRead_of_not_found hfind ▸ ⟨.not_found bad ((Looked.of_onlyDisk ht).endCommand _), hkept⟩
  · have hlooked := ((Looked.of_onlyDisk ht).setFoundId id (idCrc id)).trans_onlyDisk
      (onlyDisk_diskReadData (setFoundId id (idCrc id) t))
    have hdisk : DiskOkIn (diskReadData (setFoundId id (idCrc id) t)).2 := by rwa [DiskOkIn, diskReadData_fdc]
    rw [execRead_of_found hfind]
    simp only
    split_ifs with hok
    · have hpos := length_diskReadData_pos (s := setFoundId id (idCrc id) t) hkept hok
      exact ⟨.inr ⟨_, _, _, _, _, hpos, and_and_not _ _, and_and_not _ _, hlooked.armRead _ _ _⟩, hdisk⟩
    · exact ⟨.not_found false (hlooked.endCommand _), hdisk⟩

theorem execWrite_ranOn (h : DiskOkIn s) : RanOn s.fdc (execWrite s).fdc ∧ DiskOkIn (execWrite s) := by
  have hkept := h.findSector
  obtain ⟨t, bad, ht, hfind⟩ | ⟨t, id, ht, hfind⟩ := findSector_ends_or_finds s <;> rw [hfind] at hkept
  · exact execWrite_of_not_found hfind ▸ ⟨.not_found bad ((Looked.of_onlyDisk ht).endCommand _), hkept⟩
  · have hpos : 0 < Config.sectorSize id.size := by simp [sectorSize_eq]
    exact execWrite_of_found hfind ▸ ⟨.armed hpos (((Looked.of_onlyDisk ht).setFoundId _ _).armTransfer _ _), hkept⟩

theorem execReadAddress_ranOn (h : DiskOkIn s) : RanOn s.fdc (execReadAddress s).fdc ∧ DiskOkIn (execReadAddress s) := by
  have hnext := h.diskFindInit.diskFindNext
  constructor
  · by_cases hnone : (diskFindInit s).1 = true → (diskFindNext (diskFindInit s).2).1 = none
    · exact .not_found false (execReadAddress_of_not_found hnone)
    · obtain ⟨hyes, hsome⟩ := Classical.not_imp.mp hnone
      obtain ⟨⟨id, st⟩, hid⟩ := Option.ne_none_iff_exists'.mp hsome
      exact .inr ⟨_, _, _, _, _, by decide, and_and_not _ _, by decide, execReadAddress_of_found hyes hid⟩
  · unfold execReadAddress
    simp only
    split
    · split
      · exact hnext
      · exact hnext
    · exact h.diskFindInit

/-- What the dispatch leaves, of a command that runs on. -/
theorem execCommand_ranOn (h : DiskOkIn s) (hcmd : s.fdc.cmd ∈ runningCommands) :
    RanOn s.fdc (execCommand s).fdc ∧ DiskOkIn (execCommand s) := by
  simp only [runningCommands, List.mem_cons, List.not_mem_nil, or_false] at hcmd
  obtain hc | hc | hc | hc | hc | hc | hc := hcmd
  · exact execCommand_read (.inl hc) ▸ execRead_ranOn h
  · exact execCommand_read (.inr hc) ▸ execRead_ranOn h
  · exact execCommand_write (.inl hc) ▸ execWrite_ranOn h
  · exact execCommand_write (.inr hc) ▸ execWrite_ranOn h
  · exact execCommand_readAddress hc ▸ execReadAddress_ranOn h
  · exact execCommand_readTrack hc ▸ ⟨.armed (by decide) (execReadTrack_armed s), h.trackRead⟩
  · exact execCommand_writeTrack hc ▸ ⟨.armed (by decide) (execWriteTrack_armed s), h⟩

/-- A disk that is not there, or that answers `IsBusy`, does so with error bits alone (log entry 14). -/
theorem diskIsBusy_error (s : State) : (diskIsBusy s).1.2 &&& ~~~0x78#8 = 0#8 := by
  unfold diskIsBusy
  split
  · exact (by decide : stRecordNotFound &&& ~~~0x78#8 = 0#8)
  · next d _ =>
    cases d with
    | image d => exact (by decide : 0#8 &&& ~~~0x78#8 = 0#8)
    | device d => exact and_and_not _ 0x78#8

/-- A command in flight: the disk was busy, or it has run on. -/
theorem executeNext_ranOn (h : DiskOkIn s) (hcmd : s.fdc.cmd ∈ runningCommands) :
    ((executeNext s).fdc = s.fdc ∨ ∃ n, RanOn { s.fdc with state := n } (executeNext s).fdc) ∧ DiskOkIn (executeNext s) := by
  cases hdisk : s.fdc.disk with
  | none =>
    have heq : executeNext s = endCommand stRecordNotFound s := by simp [executeNext, hdisk]
    exact heq ▸ ⟨.inr ⟨s.fdc.state, .not_found false ((Looked.of_onlyDisk (.refl s)).endCommand _)⟩, h⟩
  | some d =>
    have hkept : DiskOkIn (diskIsBusy s).2 := by rwa [DiskOkIn, diskIsBusy_fdc]
    rw [executeNext_of_disk hdisk]
    split_ifs with hbusy herror
    · exact ⟨.inl (diskIsBusy_fdc s), hkept⟩
    · have herr := diskIsBusy_error s
      exact ⟨.inr ⟨_, .inl ⟨_, _, error_of_ne_zero herr herror, herr, (Looked.of_onlyDisk (onlyDisk_diskIsBusy s)).endCommand _⟩⟩, hkept⟩
    · have hfdc : ((diskIsBusy s).2.mapFdc startedFdc).fdc = startedFdc s.fdc := by rw [State.mapFdc_fdc, diskIsBusy_fdc]
      obtain ⟨hran, hok⟩ := execCommand_ranOn (s := (diskIsBusy s).2.mapFdc startedFdc) hkept (by rwa [hfdc])
      exact ⟨.inr ⟨_, hfdc ▸ hran⟩, hok⟩

/-- A status read of a command in flight is the command run on, and its status. -/
theorem fdcStatusRead_of_running (hbusy : s.fdc.status.getLsbD 0 = true) (hdrq : s.fdc.status.getLsbD 1 = false)
    (hcmd : s.fdc.cmd ∈ runningCommands) : fdcStatusRead s = ((executeNext s).fdc.status, executeNext s) := by
  have htypes : ∀ c ∈ runningCommands, statusIsType1 c = false := by decide
  simp [fdcStatusRead, inFlight hbusy hdrq, executeNext_cmd, htypes _ hcmd]

end

/-- An error bit of a command that is over is in the status. -/
theorem error_in_status (old : Byte) {st : Byte} (h : st &&& 0x78#8 ≠ 0#8) : (old ||| st) &&& 0xFE#8 &&& 0x78#8 ≠ 0#8 := by
  have hmask : (0xFE#8 &&& 0x78#8 : Byte) = 0x78#8 := by decide
  rw [BitVec.and_assoc, hmask, BitVec.and_or_distrib_right, Ne, BitVec.or_eq_zero_iff]
  exact fun both => h both.2

/-- The ends of a command that has run on, in the status and the buffer. -/
theorem RanOn.ends {f g : Fdc} (h : RanOn f g) (hbusy : f.status.getLsbD 0 = true) :
    (g.status.getLsbD 0 = true ∧ g.status.getLsbD 1 = true ∧ g.bufPos = 0 ∧ 0 < g.bufLen) ∨
      (g.status.getLsbD 0 = false ∧ g.status &&& 0x78#8 ≠ 0#8) := by
  have hbit : f.status[0] = true := hbusy
  obtain ⟨st, id, herror, -, disk, rfl⟩ | ⟨buf, len, held, shown, id, hlen, -, -, disk, rfl⟩ := h
  · exact .inr ⟨by simp, error_in_status _ herror⟩
  · exact .inl ⟨by simp [hbit], by simp, rfl, hlen⟩

/-- The registers of the controller that running on leaves alone. -/
theorem RanOn.registers {f g : Fdc} (h : RanOn f g) :
    g.cmd = f.cmd ∧ g.side = f.side ∧ g.head = f.head ∧ g.track = f.track ∧ g.sector = f.sector ∧ g.data = f.data ∧
      g.motorFrames = f.motorFrames := by
  obtain ⟨st, id, -, -, disk, rfl⟩ | ⟨buf, len, held, shown, id, -, -, -, disk, rfl⟩ := h
  · exact ⟨rfl, rfl, rfl, rfl, rfl, rfl, rfl⟩
  · exact ⟨rfl, rfl, rfl, rfl, rfl, rfl, rfl⟩

/-- Settles O27: the three ends of a command that runs on, and what none of them writes. -/
theorem fdcLazyExecution : Obligations.FdcLazyExecution := by
  unfold Obligations.FdcLazyExecution
  intro s hok hbusy hdrq hcmd
  obtain ⟨hends, -⟩ := executeNext_ranOn hok hcmd
  have registers : (executeNext s).fdc.cmd = s.fdc.cmd ∧ (executeNext s).fdc.side = s.fdc.side ∧ (executeNext s).fdc.head = s.fdc.head ∧
      (executeNext s).fdc.track = s.fdc.track ∧ (executeNext s).fdc.sector = s.fdc.sector ∧ (executeNext s).fdc.data = s.fdc.data ∧
      (executeNext s).fdc.motorFrames = s.fdc.motorFrames := by
    obtain hsame | ⟨n, hran⟩ := hends
    · rw [hsame]
      exact ⟨rfl, rfl, rfl, rfl, rfl, rfl, rfl⟩
    · exact hran.registers
  obtain ⟨hcommand, hside, hhead, htrack, hsector, hdata, hmotor⟩ := registers
  obtain ⟨hregs, hctl, hclock, hsig, hevents, hmem, hpaging, hfault⟩ := onlyFdc_executeNext s
  rw [fdcStatusRead_of_running hbusy hdrq hcmd]
  exact ⟨rfl, hends.imp_right fun ⟨n, hran⟩ => hran.ends hbusy, hcommand, hside, hhead, htrack, hsector, hdata, hmotor, hregs, hctl, hclock,
    hsig, hevents, hmem, hpaging, hfault⟩

end Sys2Proof.Proofs.FdcLazy
end

section
/-! The state after power-on, words in memory, the event check's clock, the 16-bit flags, and the steps outside an instruction's Operation
(10_state.md, 20_memory.md, 45_alu16.md, 60_exceptions.md, 61_event_queue.md). -/

namespace Sys2Proof.Proofs.Steps
open Sys2Proof Sys2Proof.Machine Sys2Proof.Proofs.StepAnswers Sys2Proof.Proofs.Flags

/-! ### Power-on (R191, R1040) -/

/-- Settles O36: the power-on state is written out, the page of an address by its default. -/
theorem powerOnState : Obligations.PowerOnState := by
  unfold Obligations.PowerOnState
  refine ⟨by decide, by decide, by decide, by decide, by decide, by decide, fun a => ⟨?_, rfl⟩, rfl⟩
  exact Nat.shiftRight_eq_div_pow a.toNat 14

/-- Settles O46: nothing is written, armed or due before its time. -/
theorem invariantAtReset : Obligations.InvariantAtReset where
  mem := reset_mem_wf
  queue := ⟨by decide, by decide⟩
  clock := ⟨by decide, by decide, by decide⟩
  fdc := ⟨by decide, by decide, by decide, by decide, by decide, by decide, trivial⟩
  intHigh := by decide
  table := rfl

/-- Settles O41, by the meaning of each instruction. -/
theorem everyInstructionCompletes : Obligations.EveryInstructionCompletes := by
  unfold Obligations.EveryInstructionCompletes
  exact exec_answers

/-! ### Words in memory (R201, R202, R211 to R218) -/

@[simp] theorem writable_memWriteByte (a b : Word) (v : Byte) (s : State) : writable b (memWriteByte a v s) = writable b s := by
  simp [writable]

theorem succ_ne_self (a : Word) : a + 1#16 ≠ a := by simp

/-- What a word write leaves at each address. -/
theorem byteAt_memWriteWord {s : State} (hw : Memory.wf s.mem = true) (a v b : Word) :
    (memWriteWord a v s).byteAt b =
      if b = a ∧ writable a s = true then loByte v else if b = a + 1#16 ∧ writable b s = true then hiByte v else s.byteAt b := by
  rw [memWriteWord, byteAt_memWriteByte (wf_memWriteByte hw _ _), byteAt_memWriteByte hw, writable_memWriteByte]
  by_cases hb : b = a + 1#16
  · subst hb
    simp
  · simp [hb]

/-- A word written to writable bytes is read back. -/
theorem wordAt_memWriteWord {s : State} (hw : Memory.wf s.mem = true) {a : Word} (hlo : writable a s = true)
    (hhi : writable (a + 1#16) s = true) (v : Word) : (memWriteWord a v s).wordAt a = v := by
  rw [State.wordAt, byteAt_memWriteWord hw, byteAt_memWriteWord hw]
  simp [hlo, hhi, ofBytes_hi_lo]

theorem push16_regs (v : Word) (s : State) : (push16 v s).regs = { s.regs with sp := s.regs.sp - 2#16 } := by
  simp [push16_eq, setSp]

/-- Settles O50: a push is a word write below SP, a pop a word read there. -/
theorem wordsInMemory : Obligations.WordsInMemory := by
  unfold Obligations.WordsInMemory
  intro s a v hw
  refine ⟨rfl, byteAt_memWriteWord hw a v, fun hlo hhi => wordAt_memWriteWord hw hlo hhi v, fun hlo hhi => ?_, push16_regs v s⟩
  have hsucc : s.regs.sp - 2#16 + 1#16 = s.regs.sp - 1#16 := by bv_omega
  have hback : s.regs.sp - 2#16 + 2#16 = s.regs.sp := by bv_omega
  rw [pop16_eq, push16_regs]
  constructor
  · exact wordAt_memWriteWord (s := setSp (s.regs.sp - 2#16) s) hw hlo (by rwa [hsucc]) v
  · simp [setSp, push16_regs, hback]

/-! ### The clock of the event check (R1010, R1012) -/

/-- The clock once the lines are ended. -/
theorem endLines_clock (n : Nat) (s : State) :
    (endLines n s).clock =
      { s.clock with
        lineCycle := s.clock.lineCycle - 384 * n
        lineCycleMark := s.clock.lineCycleMark - 384 * n
        line := s.clock.line + n
        maybeContended := if n = 0 then s.clock.maybeContended else lineContended (s.clock.line + n)
        frameEnd := s.clock.frameEnd || decide (0 < n ∧ 312 ≤ s.clock.line + n) } := by
  obtain rfl | hn := Nat.eq_zero_or_pos n
  · simp [endLines]
  · have hend : decide (0 < n ∧ 312 ≤ s.clock.line + n) = decide (312 ≤ s.clock.line + n) := by simp [hn]
    rw [endLines_eq n s hn, if_neg hn.ne', hend]
    rfl

/-- The clock after the event check. -/
theorem eventCheck_clock (s : State) :
    (eventCheck s).clock = (endLines (s.clock.lineCycle / 384) (syncCounter s)).clock := (onlyExt_checkEvents _ _ _).clock

/-- Settles O55: the lines are ended at once, and the handlers leave the clock alone. -/
theorem eventCheckClock : Obligations.EventCheckClock := by
  unfold Obligations.EventCheckClock
  intro s
  obtain ⟨hregs, hctl, hfdc⟩ := onlyExt_eventCheck s
  refine ⟨?_, hregs, hctl, hfdc⟩
  rw [eventCheck_clock, endLines_clock]
  have hmod : s.clock.lineCycle - 384 * (s.clock.lineCycle / 384) = s.clock.lineCycle % 384 := by omega
  have hzero : s.clock.lineCycle / 384 = 0 ↔ s.clock.lineCycle < 384 := by omega
  have hpos : 0 < s.clock.lineCycle / 384 ↔ 384 ≤ s.clock.lineCycle := by omega
  simp only [syncCounter, State.mapClock_clock, hmod, hzero, hpos, ResetProcedure.lineContended_eq_decide]

/-! ### 16-bit sums and differences (R630 to R632) and conditions (R112) -/

theorem getLsbD_fifteen_iff (v : Word) : v.getLsbD 15 = true ↔ 32768 ≤ v.toNat := by
  rw [← BitVec.msb_eq_getLsbD_last v, BitVec.msb_eq_decide, decide_eq_true_eq]

theorem getLsbD_fifteen_eq_iff (v u : Word) : v.getLsbD 15 = u.getLsbD 15 ↔ (32768 ≤ v.toNat ↔ 32768 ≤ u.toNat) := by
  rw [Bool.eq_iff_iff, getLsbD_fifteen_iff, getLsbD_fifteen_iff]

/-- A sum leaves the signed range exactly when its operands share a sign that it does not have. -/
theorem signed_overflow_add16_iff {a b r : Word} {c : Bool} (hr : r.toNat = (a.toNat + b.toNat + c.toNat) % 65536) :
    (a.toInt + b.toInt + c.toNat < -32768 ∨ 32767 < a.toInt + b.toInt + c.toNat) ↔
      (a.getLsbD 15 = b.getLsbD 15 ∧ r.getLsbD 15 ≠ a.getLsbD 15) := by
  have := a.isLt
  have := b.isLt
  have := c.toNat_le
  simp only [BitVec.toInt_eq_toNat_cond, ne_eq, getLsbD_fifteen_eq_iff]
  omega

/-- A difference leaves the signed range exactly when its operands differ in sign and it has not the sign of the first. -/
theorem signed_overflow_sub16_iff {a b r : Word} {c : Bool} (hr : (r.toNat : Int) = ((a.toNat : Int) - b.toNat - c.toNat) % 65536) :
    (a.toInt - b.toInt - c.toNat < -32768 ∨ 32767 < a.toInt - b.toInt - c.toNat) ↔
      (a.getLsbD 15 ≠ b.getLsbD 15 ∧ r.getLsbD 15 ≠ a.getLsbD 15) := by
  have := a.isLt
  have := b.isLt
  have := c.toNat_le
  simp only [BitVec.toInt_eq_toNat_cond, ne_eq, getLsbD_fifteen_eq_iff]
  omega

theorem add16_spec (a b : Word) (g : Byte) :
    (add16 a b g).1 = a + b ∧ (add16 a b g).2 &&& 0xC4#8 = g &&& 0xC4#8 := by
  refine ⟨BitVec.eq_of_toNat_eq (by simp [add16]), ?_⟩
  have kept : ∀ (s z pv : Bool) (y h x n c : Bool),
      packF s z y h x pv n c &&& 0xC4#8 = bit s 0x80#8 ||| bit z 0x40#8 ||| bit pv 0x04#8 := by decide
  have mask : ∀ g : Byte, bit (fS g) 0x80#8 ||| bit (fZ g) 0x40#8 ||| bit (fPV g) 0x04#8 = g &&& 0xC4#8 := by decide
  exact (kept ..).trans (mask g)

section
variable (a b : Word) (c : Bool)

theorem toNat_adc16 : (adc16 a b c).1.toNat = (a.toNat + b.toNat + c.toNat) % 65536 := rfl

theorem toNat_sbc16 : ((sbc16 a b c).1.toNat : Int) = ((a.toNat : Int) - b.toNat - c.toNat) % 65536 := by
  simp only [sbc16, BitVec.toNat_ofInt]
  omega

theorem adc16_pv_iff : (adc16 a b c).2.getLsbD 2 = true ↔
    (a.getLsbD 15 = b.getLsbD 15 ∧ (adc16 a b c).1.getLsbD 15 ≠ a.getLsbD 15) := by
  simp [adc16]

theorem sbc16_pv_iff : (sbc16 a b c).2.getLsbD 2 = true ↔
    (a.getLsbD 15 ≠ b.getLsbD 15 ∧ (sbc16 a b c).1.getLsbD 15 ≠ a.getLsbD 15) := by
  simp [sbc16]

theorem sbc16_h_iff : (sbc16 a b c).2.getLsbD 4 = true ↔ a.toNat % 4096 < b.toNat % 4096 + c.toNat := by
  simp [sbc16]
  omega

theorem sbc16_c_iff : (sbc16 a b c).2.getLsbD 0 = true ↔ a.toNat < b.toNat + c.toNat := by
  simp [sbc16]
  omega

end

/-- Settles O57: the helpers' flags bit by bit, the overflow by the signs. -/
theorem flags16AndConditions : Obligations.Flags16AndConditions := by
  unfold Obligations.Flags16AndConditions
  refine ⟨fun a b g => ?add, fun a b c => ?adc, fun a b c => ?sbc, fun s => ⟨rfl, rfl, rfl, rfl, rfl, rfl, rfl, rfl⟩⟩
  case add =>
    obtain ⟨hsum, hkept⟩ := add16_spec a b g
    refine ⟨hsum, hkept, ?_, ?_, ?_, ?_, ?_⟩ <;> simp [add16]
  case adc =>
    have hpv := (adc16_pv_iff a b c).trans (signed_overflow_add16_iff (toNat_adc16 a b c)).symm
    refine ⟨toNat_adc16 a b c, ?_, ?_, ?_, ?_, ?_, hpv, ?_, ?_⟩ <;> simp [adc16]
  case sbc =>
    have hpv := (sbc16_pv_iff a b c).trans (signed_overflow_sub16_iff (toNat_sbc16 a b c)).symm
    refine ⟨toNat_sbc16 a b c, ?_, ?_, ?_, sbc16_h_iff a b c, ?_, hpv, ?_, sbc16_c_iff a b c⟩ <;> simp [sbc16]

/-! ### NMI and reset at a frame boundary (R920, R943) -/

/-- Settles O38: the order of the tests, and the save every interrupt makes. -/
theorem pseudoInterrupts : Obligations.PseudoInterrupts := by
  unfold Obligations.PseudoInterrupts
  intro s hw takes back
  have htakes : acceptsNmi s = true ↔ takes := by simp [acceptsNmi, takes, and_assoc]
  refine ⟨fun h => if_pos h, fun h hno => ?_, fun h hyes => ?_⟩
  · rw [Sys2Proof.Machine.pseudoInterrupts, if_neg (by simp [h]), if_neg (mt htakes.mp hno)]
  · rw [Sys2Proof.Machine.pseudoInterrupts, if_neg (by simp [h]), if_pos (htakes.mpr hyes), takeInterrupt_nmi]
    exact hasEffect_of_did (((saveReturn_did (s := s.mapSig fun g => { g with nmiPending := false }) hw).setIffs _ _).setPc _)
      (by simp [setPc, setIffs, Config.nmiVector]) (by simp [setPc, setIffs]) fun _ => by simp [setPc, setIffs]

end Sys2Proof.Proofs.Steps
end

section
/-! The step, from the bytes at PC to its end (60_exceptions.md R900). -/

namespace Sys2Proof.Proofs.StepRuns
open Sys2Proof Sys2Proof.Machine Sys2Proof.Proofs.StepAnswers Sys2Proof.Proofs.MaskableInterrupt

/-! ### The parts of a step -/

/-- Accepting an interrupt clears the enables and leaves a halt; the rest of the control state stays. -/
theorem acceptInterrupt_ctl (s : State) :
    (acceptInterrupt s).ctl = s.ctl ∨ (acceptInterrupt s).ctl = takenCtl s := by
  by_cases h : acceptsInterrupt s = true
  · right
    rw [acceptInterrupt_of_accepts h]
    by_cases him : s.ctl.im = .im2
    · rw [takeInterrupt_table him]
      exact saved_ctl s
    · rw [takeInterrupt_fixed him]
      exact saved_ctl s
  · exact .inl (by rw [acceptInterrupt_of_not_accepts h])

theorem acceptInterrupt_table (s : State) : (acceptInterrupt s).ctl.table = s.ctl.table := by
  obtain h | h := acceptInterrupt_ctl s <;> rw [h]

/-- An instruction takes at least one byte, and is one of the CPU. -/
theorem decodeAt_spec (s : State) : ∃ i n, decodeAt s = (i, n + 1) ∧ i.space = .cpu := by
  obtain ⟨-, hspace, hpos, -, -⟩ := Encoding.decodedBytesAreEncoded.1 s.ctl.table s.ctl.idx (s.byteAt s.regs.pc)
    (s.byteAt (s.regs.pc + 1#16)) (s.byteAt (s.regs.pc + 2#16))
  exact ⟨(decodeAt s).1, (decodeAt s).2 - 1, Prod.ext rfl (Nat.succ_pred_eq_of_pos hpos).symm, hspace⟩

/-- Fetching what `decodeAt` reads. -/
theorem fetchInstr_of_decodeAt {s : State} {i : Instr} {n : Nat} (h : decodeAt s = (i, n)) :
    fetchInstr s = (i, fetched n (countsRefresh s.ctl.table) s) := by
  obtain ⟨j, m, hj, -⟩ := decodeAt_spec s
  obtain ⟨rfl, rfl⟩ := Prod.mk.inj (h.symm.trans hj)
  exact fetchInstr_eq h

theorem isEiDi_eq (i : Instr) : isEiDi i = (decide (i = .ei) || decide (i = .di)) := by
  unfold isEiDi
  split
  · rfl
  · rfl
  · next hei hdi => simp [show i ≠ .ei from hei, show i ≠ .di from hdi]

theorem finishStep_eq (i : Instr) (t : State) :
    finishStep i t = .next (if t.fault = none then endStep (decide (i = .ei) || decide (i = .di)) t else t) := by
  rw [finishStep, isEiDi_eq]
  cases h : t.fault <;> simp

theorem runInstr_of_exec {s t : State} {i : Instr} {n : Nat} (h : decodeAt s = (i, n))
    (hx : exec i (fetched n (countsRefresh s.ctl.table) s) = .next t) :
    runInstr s = if t.ctl.table = .main then finishStep i t else runSubTable t := by
  simp only [runInstr, fetchInstr_of_decodeAt h, hx]

theorem runSubTable_of_exec {s t : State} {i : Instr} {n : Nat} (h : decodeAt s = (i, n))
    (hx : exec i (fetched n (countsRefresh s.ctl.table) s) = .next t) : runSubTable s = finishStep i t := by
  simp only [runSubTable, fetchInstr_of_decodeAt h, hx]

theorem afterCheck_of_running {s : State} (h : (acceptInterrupt s).ctl.halted = false) : afterCheck s = runInstr (acceptInterrupt s) := by
  simp [afterCheck, h]

theorem afterCheck_of_halted {s : State} (h : (acceptInterrupt s).ctl.halted = true) :
    afterCheck s = .next (endStep false (haltedStep (acceptInterrupt s))) := by
  simp [afterCheck, h]

/-- Settles O39: the step part by part, the main table first and the table a prefix byte chose after it. -/
theorem stepRunsDecodedInstruction : Obligations.StepRunsDecodedInstruction := by
  unfold Obligations.StepRunsDecodedInstruction
  intro s hrun htable hfault a at_ closed ended
  have hstep := step_running hrun hfault
  have hmain : a.ctl.table = .main := by
    rw [show a.ctl.table = (eventCheck s).ctl.table from acceptInterrupt_table _, (onlyExt_eventCheck s).2.1, htable]
  have hpc (x : State) : x.byteAt (x.regs.pc + 0#16) = x.byteAt x.regs.pc := by rw [BitVec.add_zero]
  refine ⟨fun hrunning i n t hi hx => ?_, fun hhalted => ?_⟩
  · have hdecode : decodeAt a = (i, n) := by
      rw [decodeAt, hmain, ← hpc]
      exact hi
    have hexec : exec i (fetched n (countsRefresh a.ctl.table) a) = .next t := by rw [hmain]; exact hx
    rw [hstep, afterCheck_of_running hrunning, runInstr_of_exec hdecode hexec]
    refine ⟨fun hend => ?_, fun hprefix j m u hj hy => ?_⟩
    · rw [if_pos hend, finishStep_eq]
      rfl
    · have hcounts : (decide (t.ctl.table = .cb) || decide (t.ctl.table = .ed)) = countsRefresh t.ctl.table := by
        cases htt : t.ctl.table <;> simp_all [countsRefresh]
      have hsub : decodeAt t = (j, m) := by
        rw [decodeAt, ← hpc]
        exact hj
      rw [if_neg hprefix, runSubTable_of_exec hsub (by rw [← hcounts]; exact hy), finishStep_eq]
      rfl
  · rw [hstep, afterCheck_of_halted hhalted]
    rfl

end Sys2Proof.Proofs.StepRuns
end

section
/-! The event queue: what its operations keep, and that the drain leaves nothing due (61_event_queue.md R1003 to R1006, R1035). -/

namespace Sys2Proof.Proofs.EventDrain
open Sys2Proof Sys2Proof.Machine

/-! ### What every action keeps, the operations built of actions keep -/

section
variable {P : State → Prop}

theorem unlessFault_keeps {rest : State → State} (hrest : ∀ s, P s → P (rest s)) {s : State} (h : P s) : P (unlessFault s rest) := by
  unfold unlessFault
  split
  · exact hrest s h
  · exact h

theorem runExt_keeps (act : ∀ x s, P s → P (extAct x s)) (acts : List ExtAction) {s : State} (h : P s) : P (runExt acts s) := by
  unfold runExt
  induction acts generalizing s with
  | nil => exact h
  | cons x more ih => exact ih (unlessFault_keeps (act x) h)

theorem runExtBudget_keeps (act : ∀ x s, P s → P (extAct x s)) (now budget : Nat) (acts : List ExtAction) {s : State} (h : P s) :
    P (runExtBudget now budget acts s).1 := by
  induction acts generalizing budget s with
  | nil => exact h
  | cons x more ih =>
    unfold runExtBudget
    split
    · exact h
    · split
      · split
        · exact ih _ h
        · exact ih _ (act x _ h)
      · exact ih _ (act x _ h)

/-- What the actions, a draw, the three sources of the handlers and the end of the ASIC's sleep keep, every handler keeps. -/
theorem dispatch_keeps (act : ∀ x s, P s → P (extAct x s)) (draw : ∀ s, P s → P s.nextDraw)
    (source : ∀ m ∈ [intFrame, intLine, intMidiOut], ∀ level s, P s → P (setIntBit m level s))
    (awake : ∀ s, P s → P (s.mapSig fun g => { g with asicAsleep := false })) (e : Event) (now budget : Nat) {s : State} (h : P s) :
    P (dispatch e now budget s).1 := by
  have add (k due s) (h : P s) : P (addEvent k due s) := act (.addEvent k due) s h
  have ext (k t) : P (extEvent k t now budget s).1 := runExtBudget_keeps act _ _ _ (draw s h)
  have frame (level) : P (setIntBit intFrame level s) := source _ (by simp) level s h
  have line (level) : P (setIntBit intLine level s) := source _ (by simp) level s h
  have midi (level) : P (setIntBit intMidiOut level s) := source _ (by simp) level s h
  unfold dispatch
  split
  · exact unlessFault_keeps (add _ _) (add _ _ _ (frame false))
  · exact frame true
  · exact unlessFault_keeps (add _ _) (add _ _ _ (line false))
  · exact line true
  · exact midi false
  · exact midi true
  · exact ext _ _
  · exact ext _ _
  · exact ext _ _
  · exact ext _ _
  · exact awake s h
  · exact unlessFault_keeps (add _ _) (ext _ _)

/-- What taking the first entry and every handler keep, the drain keeps. -/
theorem drainEvents_keeps (take : ∀ e rest s, s.events = e :: rest → P s → P (s.setEvents rest))
    (handle : ∀ e now budget s, P s → P (dispatch e now budget s).1) (fuel now budget : Nat) {s : State} (h : P s) :
    P (drainEvents fuel now budget s) := by
  induction fuel generalizing budget s with
  | zero => exact h
  | succ n ih =>
    unfold drainEvents
    split
    · exact h
    · next e rest heq =>
      have hnext := handle e now budget _ (take e rest s heq h)
      split
      · simp only
        split
        · exact hnext
        · exact ih _ hnext
      · exact h

end

/-! ### The queue stays sorted and within its capacity (R1003) -/

theorem queueOk_addEvent (k : EventKind) (due : Nat) {s : State} (h : QueueOk s.events) : QueueOk (addEvent k due s).events := by
  unfold addEvent
  split
  · exact h
  · next hroom => exact ⟨insertEvent_sorted _ h.sorted, by rw [State.setEvents_events, insertEvent_length]; omega⟩

theorem QueueOk.filter {q : List Event} (h : QueueOk q) (p : Event → Bool) : QueueOk (q.filter p) :=
  ⟨h.sorted.filter p, (List.length_filter_le p q).trans h.bounded⟩

theorem queueOk_extAct (x : ExtAction) {s : State} (h : QueueOk s.events) : QueueOk (extAct x s).events := by
  cases x with
  | addEvent k due => exact queueOk_addEvent k due h
  | cancelEvent k => exact QueueOk.filter h _
  | setMouse | setMidiIn | setPages | setReadOnly | mapByte => exact h

theorem QueueOk.tail {e : Event} {rest : List Event} (h : QueueOk (e :: rest)) : QueueOk rest :=
  ⟨h.sorted.of_cons, Nat.le_of_succ_le h.bounded⟩

theorem queueOk_dispatch (e : Event) (now budget : Nat) {s : State} (h : QueueOk s.events) : QueueOk (dispatch e now budget s).1.events :=
  dispatch_keeps (P := fun s => QueueOk s.events) (fun x _ => queueOk_extAct x) (fun _ h => h) (fun _ _ _ _ h => h) (fun _ h => h) e now
    budget h

theorem queueOk_drainEvents (fuel now budget : Nat) {s : State} (h : QueueOk s.events) : QueueOk (drainEvents fuel now budget s).events :=
  drainEvents_keeps (P := fun s => QueueOk s.events) (fun _ _ _ heq h => QueueOk.tail (heq ▸ h))
    (fun e now budget _ => queueOk_dispatch e now budget) fuel now budget h

/-! ### The drain ends

The dispatches a queue can still lead to are bounded by its weight: every dispatch takes one off it, what a handler adds for its own entry is
counted in that entry's weight, and what the external side adds is paid for by the budget. -/

/-- The dispatches a queue can lead to by time `now`. -/
def queueWeight (now : Nat) (q : List Event) : Nat := (q.map (eventWeight now)).sum

/-- The most dispatches one entry can lead to. -/
def maxWeight (now : Nat) : Nat := 2 * (now / Config.cyclesPerFrame + 1)

section
variable {now : Nat}

theorem eventWeight_eq_zero_iff (e : Event) : eventWeight now e = 0 ↔ now < e.due := by
  unfold eventWeight
  split_ifs <;> simp_all

theorem eventWeight_le (e : Event) : eventWeight now e ≤ maxWeight now := by
  have hdiv : (now - e.due) / Config.cyclesPerFrame ≤ now / Config.cyclesPerFrame := Nat.div_le_div_right (Nat.sub_le ..)
  unfold eventWeight maxWeight
  generalize (now - e.due) / Config.cyclesPerFrame = left, now / Config.cyclesPerFrame = frames at *
  split_ifs <;> omega

/-- An entry whose kind adds no successor leads to one dispatch at most. -/
theorem eventWeight_le_one {e : Event} (h : periodic e.kind = false) : eventWeight now e ≤ 1 := by
  unfold eventWeight
  rw [h]
  split_ifs <;> simp_all

/-- A periodic entry that is due pays for itself, one end event and its successor. -/
theorem eventWeight_successor {k : EventKind} {due : Nat} (hk : periodic k = true) (hdue : due ≤ now) :
    eventWeight now ⟨k, due + Config.cyclesPerFrame⟩ + 2 ≤ eventWeight now ⟨k, due⟩ := by
  have hframe : 0 < Config.cyclesPerFrame := by decide
  simp only [eventWeight, hk, if_true, if_neg (Nat.not_lt.mpr hdue)]
  generalize Config.cyclesPerFrame = frame at *
  split_ifs with hlater
  · exact Nat.mul_le_mul_left 2 (Nat.succ_le_succ (Nat.zero_le _))
  · have hsplit : now - due = now - (due + frame) + frame := by omega
    rw [hsplit, Nat.add_div_right _ hframe]
    omega

theorem queueWeight_cons (e : Event) (q : List Event) : queueWeight now (e :: q) = eventWeight now e + queueWeight now q := by
  simp [queueWeight]

theorem queueWeight_insertEvent (e : Event) (q : List Event) :
    queueWeight now (insertEvent e q) = eventWeight now e + queueWeight now q := by
  induction q with
  | nil => rfl
  | cons h t ih =>
    unfold insertEvent
    split
    · rw [queueWeight_cons]
    · rw [queueWeight_cons, ih, queueWeight_cons]
      omega

theorem queueWeight_filter_le (p : Event → Bool) (q : List Event) : queueWeight now (q.filter p) ≤ queueWeight now q := by
  induction q with
  | nil => exact Nat.le_refl _
  | cons h t ih =>
    rw [List.filter_cons]
    split
    · rw [queueWeight_cons, queueWeight_cons]
      omega
    · rw [queueWeight_cons]
      omega

theorem queueWeight_addEvent_le (k : EventKind) (due : Nat) (s : State) :
    queueWeight now (addEvent k due s).events ≤ eventWeight now ⟨k, due⟩ + queueWeight now s.events := by
  unfold addEvent
  split
  · exact Nat.le_add_left ..
  · exact (queueWeight_insertEvent _ _).le

/-- Two entries added, the second unless the first raised the fault. -/
theorem queueWeight_addTwo_le (k l : EventKind) (due later : Nat) (s : State) :
    queueWeight now (unlessFault (addEvent k due s) (addEvent l later)).events ≤
      eventWeight now ⟨k, due⟩ + eventWeight now ⟨l, later⟩ + queueWeight now s.events := by
  have hfirst := queueWeight_addEvent_le (now := now) k due s
  unfold unlessFault
  split
  · have hsecond := queueWeight_addEvent_le (now := now) l later (addEvent k due s)
    omega
  · omega

/-- An action adds weight only by an entry that is already due. -/
theorem queueWeight_extAct_le (x : ExtAction) (s : State) :
    queueWeight now (extAct x s).events ≤ queueWeight now s.events + if addsDue now x then maxWeight now else 0 := by
  cases x with
  | addEvent k due =>
    have hadd := queueWeight_addEvent_le (now := now) k due s
    have hmax := eventWeight_le (now := now) ⟨k, due⟩
    have hzero := eventWeight_eq_zero_iff (now := now) ⟨k, due⟩
    simp only [addsDue, decide_eq_true_eq, extAct] at hzero ⊢
    split_ifs <;> omega
  | cancelEvent k => exact (queueWeight_filter_le _ _).trans (Nat.le_add_right ..)
  | setMouse | setMidiIn | setPages | setReadOnly | mapByte => exact Nat.le_add_right ..

/-- The budget pays for what the external side adds. -/
theorem runExtBudget_weight_le (budget : Nat) (acts : List ExtAction) (s : State) :
    (runExtBudget now budget acts s).2 * maxWeight now + queueWeight now (runExtBudget now budget acts s).1.events ≤
      budget * maxWeight now + queueWeight now s.events := by
  induction acts generalizing budget s with
  | nil => exact Nat.le_refl _
  | cons x more ih =>
    have hact := queueWeight_extAct_le (now := now) x s
    unfold runExtBudget
    split
    · exact Nat.le_refl _
    · split_ifs with hdue
      · rw [if_pos hdue] at hact
        split
        · exact ih 0 s
        · next left =>
          have hmore := ih left (extAct x s)
          rw [Nat.succ_mul]
          omega
      · rw [if_neg hdue] at hact
        have hmore := ih budget (extAct x s)
        omega

/-- The start of an interrupt takes one off the weight: its entry pays for its end and its successor. -/
theorem startEvent_weight_lt {k l : EventKind} {due : Nat} (hk : periodic k = true) (hl : periodic l = false) (hdue : due ≤ now)
    (later : Nat) (s : State) :
    queueWeight now (unlessFault (addEvent l later s) (addEvent k (due + Config.cyclesPerFrame))).events + 1 ≤
      eventWeight now ⟨k, due⟩ + queueWeight now s.events := by
  have htwo := queueWeight_addTwo_le (now := now) l k later (due + Config.cyclesPerFrame) s
  have hend := eventWeight_le_one (now := now) (e := ⟨l, later⟩) hl
  have hsucc := eventWeight_successor hk hdue
  omega

/-- A dispatch takes at least one off the weight. -/
theorem dispatch_weight_lt {e : Event} (hdue : e.due ≤ now) (budget : Nat) (s : State) :
    (dispatch e now budget s).2 * maxWeight now + queueWeight now (dispatch e now budget s).1.events + 1 ≤
      budget * maxWeight now + (eventWeight now e + queueWeight now s.events) := by
  obtain ⟨k, due⟩ := e
  replace hdue : due ≤ now := hdue
  have hpos : 0 < eventWeight now ⟨k, due⟩ :=
    Nat.pos_of_ne_zero fun h => absurd ((eventWeight_eq_zero_iff _).mp h) (Nat.not_lt.mpr hdue)
  have hself : budget * maxWeight now + queueWeight now s.events + 1 ≤
      budget * maxWeight now + (eventWeight now ⟨k, due⟩ + queueWeight now s.events) := by omega
  have hext : (extEvent k due now budget s).2 * maxWeight now + queueWeight now (extEvent k due now budget s).1.events ≤
      budget * maxWeight now + queueWeight now s.events := runExtBudget_weight_le budget _ s.nextDraw
  cases k
  case frameIntStart =>
    exact Nat.add_le_add_left (startEvent_weight_lt (k := .frameIntStart) (l := .frameIntEnd) rfl rfl hdue _ (setIntBit intFrame false s)) _
  case lineIntStart =>
    exact Nat.add_le_add_left (startEvent_weight_lt (k := .lineIntStart) (l := .lineIntEnd) rfl rfl hdue _ (setIntBit intLine false s)) _
  case inputUpdate =>
    have hsucc := eventWeight_successor (k := .inputUpdate) rfl hdue
    have hone := queueWeight_addEvent_le (now := now) .inputUpdate (due + Config.cyclesPerFrame) (extEvent .inputUpdate due now budget s).1
    simp only [dispatch]
    unfold unlessFault
    split <;> omega
  case midiTxfmstEnd | mouseReset | extClockTick | tapeEdge => exact (Nat.succ_le_succ hext).trans hself
  case frameIntEnd | lineIntEnd | midiOutStart | midiOutEnd | asicReady => exact hself

/-- A queue without weight has nothing due. -/
theorem not_due_of_weight_zero {q : List Event} (h : queueWeight now q = 0) : ∀ e ∈ q, now < e.due := fun e he => by
  have hle : eventWeight now e ≤ queueWeight now q := List.single_le_sum (by simp) _ (List.mem_map_of_mem he)
  exact (eventWeight_eq_zero_iff e).mp (by omega)

/-- What stands behind an entry that is not due is not due. -/
theorem QueueOk.not_due {e : Event} {rest : List Event} (h : QueueOk (e :: rest)) (he : now < e.due) : ∀ x ∈ e :: rest, now < x.due
  | _, .head _ => he
  | _, .tail _ hx => Nat.lt_of_lt_of_le he (List.rel_of_pairwise_cons h.sorted hx)

theorem drainEvents_of_due {fuel budget : Nat} {s : State} {e : Event} {rest : List Event} (heq : s.events = e :: rest) (hdue : e.due ≤ now)
    (hnone : (dispatch e now budget (s.setEvents rest)).1.fault = none) :
    drainEvents (fuel + 1) now budget s =
      drainEvents fuel now (dispatch e now budget (s.setEvents rest)).2 (dispatch e now budget (s.setEvents rest)).1 := by
  simp [drainEvents, heq, hdue, hnone]

theorem drainEvents_of_fault {fuel budget : Nat} {s : State} {e : Event} {rest : List Event} {f : Fault} (heq : s.events = e :: rest)
    (hdue : e.due ≤ now) (hsome : (dispatch e now budget (s.setEvents rest)).1.fault = some f) :
    drainEvents (fuel + 1) now budget s = (dispatch e now budget (s.setEvents rest)).1 := by
  simp [drainEvents, heq, hdue, hsome]

/-- With nothing due a drain does nothing. -/
theorem drainEvents_of_not_due (fuel budget : Nat) {s : State} (h : ∀ e ∈ s.events, now < e.due) : drainEvents fuel now budget s = s := by
  cases fuel with
  | zero => rfl
  | succ n =>
    unfold drainEvents
    split
    · rfl
    · next e rest heq => exact if_neg (Nat.not_le.mpr (h e (heq ▸ List.mem_cons_self ..)))

/-- With fuel for the weight and the budget the drain leaves nothing due. -/
theorem drainEvents_drained {fuel budget : Nat} {s : State} (h : QueueOk s.events)
    (hfuel : budget * maxWeight now + queueWeight now s.events ≤ fuel) (hfault : (drainEvents fuel now budget s).fault = none) :
    ∀ e ∈ (drainEvents fuel now budget s).events, now < e.due := by
  induction fuel generalizing budget s with
  | zero => exact not_due_of_weight_zero (q := s.events) (by omega)
  | succ n ih =>
    cases heq : s.events with
    | nil => simp [drainEvents, heq]
    | cons e rest =>
      rw [heq] at h hfuel
      rcases Nat.lt_or_ge now e.due with hlater | hdue
      · have hnone : ∀ x ∈ s.events, now < x.due := heq ▸ QueueOk.not_due h hlater
        rwa [drainEvents_of_not_due _ _ hnone]
      · have hweight := dispatch_weight_lt hdue budget (s.setEvents rest)
        have hok := queueOk_dispatch e now budget (s := s.setEvents rest) (QueueOk.tail h)
        rw [State.setEvents_events] at hweight
        rw [queueWeight_cons] at hfuel
        cases hf : (dispatch e now budget (s.setEvents rest)).1.fault with
        | some f =>
          rw [drainEvents_of_fault heq hdue hf, hf] at hfault
          contradiction
        | none =>
          rw [drainEvents_of_due heq hdue hf] at hfault ⊢
          exact ih hok (by omega) hfault

end

/-- Settles O54: the drain's fuel is the weight of the queue and of the budget, which every dispatch lowers. -/
theorem dueEventsAreDrained : Obligations.DueEventsAreDrained := by
  unfold Obligations.DueEventsAreDrained
  intro s now budget hqueue
  have hkept := onlyExt_checkEvents now budget s
  refine ⟨fun hfault => ?_, queueOk_drainEvents _ _ _ hqueue, hkept.regs, hkept.ctl, hkept.clock, hkept.fdc⟩
  have hnone := drainEvents_drained hqueue (Nat.le_refl _) hfault
  exact ⟨hnone, fun again => drainEvents_of_not_due _ again hnone⟩

end Sys2Proof.Proofs.EventDrain
end

section
/-! What a port access can change (20_memory.md R230 to R236). -/

namespace Sys2Proof.Proofs.Ports
open Sys2Proof Sys2Proof.Machine Sys2Proof.Proofs.EventDrain

theorem isFdcPort_iff (port : Word) : isFdcPort port = true ↔ 0xE0 ≤ (loByte port).toNat ∧ (loByte port).toNat ≤ 0xE7 := by
  have range : ∀ v : Byte, (v &&& 0xF8#8 == 0xE0#8) = true ↔ 0xE0 ≤ v.toNat ∧ v.toNat ≤ 0xE7 := by decide
  exact range _

/-- Setting or clearing a source bit keeps the bits outside its mask. -/
theorem setIntBit_kept {mask keep : Byte} (h : mask &&& keep = 0#8) (level : Bool) (s : State) :
    (setIntBit mask level s).sig.intStatus &&& keep = s.sig.intStatus &&& keep := by
  change (if level then s.sig.intStatus ||| mask else s.sig.intStatus &&& ~~~mask) &&& keep = s.sig.intStatus &&& keep
  ext i hi
  have hbit := congrArg (·[i]) h
  cases level <;> simp at hbit ⊢ <;> grind

/-- The signals the external side of a port access leaves: all but the MOUSE and MIDIIN bits (R236). -/
def PortSignals (before after : Signals) : Prop :=
  after.intStatus &&& 0xF9#8 = before.intStatus &&& 0xF9#8 ∧ after = { before with intStatus := after.intStatus }

theorem portSignals_setIntBit {g : Signals} {s : State} (h : PortSignals g s.sig) {mask : Byte} (hmask : mask &&& 0xF9#8 = 0#8)
    (level : Bool) : PortSignals g (setIntBit mask level s).sig := by
  obtain ⟨hbits, hrest⟩ := h
  exact ⟨(setIntBit_kept hmask level s).trans hbits, by rw [setIntBit, State.mapSig_sig, hrest]⟩

theorem portSignals_extAct (g : Signals) (x : ExtAction) (s : State) (h : PortSignals g s.sig) : PortSignals g (extAct x s).sig := by
  cases x with
  | addEvent k due =>
    simp only [extAct, addEvent]
    split <;> exact h
  | setMouse level | setMidiIn level => exact portSignals_setIntBit h (by decide) level
  | cancelEvent | setPages | setReadOnly | mapByte => exact h

theorem portSignals_runExt (acts : List ExtAction) (s : State) : PortSignals s.sig (runExt acts s).sig :=
  runExt_keeps (P := fun t => PortSignals s.sig t.sig) (portSignals_extAct s.sig) acts ⟨rfl, rfl⟩

/-- A port access is an access to the controller or to the external side, after the charge. -/
theorem port_access (s : State) (port : Word) (v : Byte) : ∀ t ∈ [(portRead port s).2, portWrite port v s],
    (isFdcPort port = true ∧ OnlyFdc (portCharge port s) t) ∨
      (isFdcPort port = false ∧ OnlyExt (portCharge port s) t ∧ PortSignals s.sig t.sig) := by
  simp only [List.forall_mem_cons, List.not_mem_nil, false_imp_iff, implies_true, and_true, portRead, portWrite]
  cases isFdcPort port with
  | true => exact ⟨.inl ⟨rfl, onlyFdc_fdcIn ..⟩, .inl ⟨rfl, onlyFdc_fdcOut ..⟩⟩
  | false => exact ⟨.inr ⟨rfl, onlyExt_extIn .., portSignals_runExt ..⟩, .inr ⟨rfl, onlyExt_extOut .., portSignals_runExt ..⟩⟩

/-- Settles O51: the two ranges are the two sides of `port_access`. -/
theorem portAccessFrame : Obligations.PortAccessFrame := by
  unfold Obligations.PortAccessFrame
  intro s port v t ht
  rw [← isFdcPort_iff]
  rcases port_access s port v t ht with ⟨hport, h⟩ | ⟨hport, h, hbits, hsig⟩
  · exact ⟨h.regs, h.ctl, h.clock, fun hn => absurd hport hn, fun _ => ⟨h.mem, h.events, h.sig, h.paging, h.fault⟩⟩
  · exact ⟨h.regs, h.ctl, h.clock, fun _ => ⟨h.fdc, hbits, hsig⟩, fun hn => by simp [hport] at hn⟩

end Sys2Proof.Proofs.Ports
end

section
/-! What an instruction can touch: the ordinary instructions write ordinary registers, writable bytes and time; the named ones
write a special register or the control state as well; the port instructions reach the outside (10_state.md, 20_memory.md R211, R226). -/

namespace Sys2Proof.Proofs.Touches
open Sys2Proof Sys2Proof.Machine Sys2Proof.Proofs.EventDrain Sys2Proof.Proofs.StepAnswers

/-- The registers that only named instructions write: I, R and the shadow registers. -/
def special (g : Regs) : List Byte := [g.i, g.r, g.a', g.f', g.b', g.c', g.d', g.e', g.h', g.l']

/-- From `s` to `t` ordinary registers, memory, the line-cycle counter and what lies outside the CPU may have changed. -/
structure Calm (s t : State) : Prop where
  special : special t.regs = special s.regs
  ctl : t.ctl = s.ctl
  clock : t.clock = { s.clock with lineCycle := t.clock.lineCycle }
  time : s.clock.lineCycle ≤ t.clock.lineCycle
  wf : Memory.wf s.mem = true → Memory.wf t.mem = true

/-- From `s` to `t` ordinary registers, writable bytes and the line-cycle counter may have changed. -/
structure Quiet (s t : State) : Prop extends Calm s t where
  sig : t.sig = s.sig
  events : t.events = s.events
  fdc : t.fdc = s.fdc
  paging : t.paging = s.paging
  fault : t.fault = s.fault
  bytes : Memory.wf s.mem = true → ∀ a, writable a s = false → t.byteAt a = s.byteAt a

theorem le_chargedCycle (a : Word) (s : State) : s.clock.lineCycle ≤ chargedCycle a s := by
  have hround := Memory.roundUp_spec (s.clock.lineCycle + Config.memCost) (n := Config.contendAlign) (by decide)
  simp only [chargedCycle]
  split <;> omega

theorem le_portChargedCycle (p : Word) (s : State) : s.clock.lineCycle ≤ portChargedCycle p s := by
  have hround := Memory.roundUp_spec (s.clock.lineCycle + Config.portCost) (n := Config.asicAlign) (by decide)
  simp only [portChargedCycle]
  split <;> omega

theorem Calm.trans {s t u : State} (h : Calm s t) (k : Calm t u) : Calm s u where
  special := k.special.trans h.special
  ctl := k.ctl.trans h.ctl
  clock := by rw [k.clock, h.clock]
  time := h.time.trans k.time
  wf := k.wf ∘ h.wf

section
variable {s t : State}

theorem Quiet.refl (s : State) : Quiet s s := ⟨⟨rfl, rfl, rfl, Nat.le_refl _, id⟩, rfl, rfl, rfl, rfl, rfl, fun _ _ _ => rfl⟩

/-- Registers written, the special ones as they were. -/
theorem Quiet.regs (h : Quiet s t) {g : Regs} (hg : Touches.special g = Touches.special t.regs) : Quiet s { t with regs := g } :=
  ⟨⟨hg.trans h.special, h.ctl, h.clock, h.time, h.wf⟩, h.sig, h.events, h.fdc, h.paging, h.fault, h.bytes⟩

/-- The line-cycle counter moved on. -/
theorem Quiet.later (h : Quiet s t) {n : Nat} (hn : t.clock.lineCycle ≤ n) : Quiet s { t with clock := { t.clock with lineCycle := n } } :=
  ⟨⟨h.special, h.ctl, by rw [h.clock], h.time.trans hn, h.wf⟩, h.sig, h.events, h.fdc, h.paging, h.fault, h.bytes⟩

theorem Quiet.read (h : Quiet s t) (a : Word) : Quiet s (memCharge a t) := h.later (le_chargedCycle a t)

theorem Quiet.spend (h : Quiet s t) (m n : Nat) : Quiet s (spend m n t) := h.later (Nat.le_add_right ..)

theorem Quiet.draw (h : Quiet s t) : Quiet s t.nextDraw :=
  ⟨⟨h.special, h.ctl, h.clock, h.time, h.wf⟩, h.sig, h.events, h.fdc, h.paging, h.fault, h.bytes⟩

theorem Quiet.write (h : Quiet s t) (a : Word) (v : Byte) : Quiet s (memWriteByte a v t) := by
  have hread := h.read a
  refine ⟨⟨?_, ?_, ?_, ?_, fun hw => wf_memWriteByte (h.wf hw) a v⟩, ?_, ?_, ?_, ?_, ?_, fun hw b hb => ?bytes⟩
  case bytes =>
    have hkept : writable b t = false := by rwa [writable, h.paging]
    rw [byteAt_memWriteByte (h.wf hw), if_neg (fun ⟨hab, ha⟩ => by simp [hab, ha] at hkept), h.bytes hw b hb]
  all_goals simp only [memWriteByte_regs, memWriteByte_ctl, memWriteByte_sig, memWriteByte_events, memWriteByte_fdc, memWriteByte_paging,
    memWriteByte_fault, memWriteByte_clock]
  · exact h.special
  · exact h.ctl
  · rw [h.clock]
  · exact hread.time
  · exact h.sig
  · exact h.events
  · exact h.fdc
  · exact h.paging
  · exact h.fault

theorem Quiet.readWord (h : Quiet s t) (a : Word) : Quiet s (memCharge (a + 1#16) (memCharge a t)) := (h.read a).read _

theorem Quiet.writeWord (h : Quiet s t) (a v : Word) : Quiet s (memWriteWord a v t) := (h.write a _).write _ _

theorem Quiet.setR (h : Quiet s t) (r : Reg8) (v : Byte) : Quiet s (setR r v t) := by cases r <;> exact h.regs rfl

theorem Quiet.setRp (h : Quiet s t) (p : RP) (v : Word) : Quiet s (setRp p v t) := by cases p <;> exact h.regs rfl

theorem Quiet.setHl (h : Quiet s t) (v : Word) : Quiet s (setHl v t) := h.regs rfl

theorem Quiet.setRp2 (h : Quiet s t) (p : RP2) (v : Word) : Quiet s (setRp2 p v t) := by cases p <;> exact h.regs rfl

theorem Quiet.setRx (h : Quiet s t) (x : IndexMode) (r : Reg8) (v : Byte) : Quiet s (setRx x r v t) := by
  cases x <;> cases r <;> exact h.regs rfl

theorem Quiet.setX (h : Quiet s t) (x : IndexMode) (v : Word) : Quiet s (setX x v t) := by cases x <;> exact h.regs rfl

theorem Quiet.writeF (h : Quiet s t) (f : Byte) : Quiet s (writeF f t) := h.regs rfl

theorem Quiet.writeFOpen (h : Quiet s t) (o f : Byte) : Quiet s (writeFOpen o f t) := h.draw.regs rfl

theorem Quiet.push16 (h : Quiet s t) (v : Word) : Quiet s (push16 v t) :=
  (h.regs (g := { t.regs with sp := t.regs.sp - 2#16 }) rfl).writeWord _ _

theorem Quiet.pop16 (h : Quiet s t) : Quiet s (pop16 t).2 := (h.readWord t.regs.sp).regs rfl

theorem Quiet.exchangeStack (h : Quiet s t) (x : IndexMode) : Quiet s (exchangeStack x t) := ((h.readWord _).writeWord _ _).setX x _

theorem Quiet.jump (h : Quiet s t) {pc : Word} : Quiet s (setPc pc t) := h.regs rfl

theorem Quiet.call (h : Quiet s t) (target : Word) : Quiet s (call target t) := (h.push16 _).regs rfl

theorem Quiet.blockLoad (h : Quiet s t) (delta : Word) : Quiet s (blockLoad delta t) := ((h.read _).write _ _).regs rfl

theorem Quiet.blockCompare (h : Quiet s t) (delta : Word) : Quiet s (blockCompare delta t).2 := (h.read _).regs rfl

end

/-! ### The ordinary instructions -/

/-- Whether an instruction writes a special register or the control state: the loads of I and R, EX AF,AF', EXX, HALT, DI, EI, IM, the
returns from interrupts, and the prefix bytes. -/
def writesSpecial : Instr → Bool
  | .ldIA | .ldRA | .exAfAf | .exx | .halt | .di | .ei | .retn | .reti | .retnMirror _ => true
  | .im0 | .im1 | .im2 | .im0Mirror _ | .im1Mirror | .im2Mirror => true
  | .prefixCb | .prefixDd | .prefixEd | .prefixFd | .prefixDdcb | .prefixFdcb | .prefixEdIdx => true
  | _ => false

/-- The instruction's next state is quiet. -/
def RunsQuietly (i : Instr) (s : State) : Prop := ∃ t, exec i s = .next t ∧ Quiet s t

section
variable {i : Instr} {s : State} {m n : Nat}

theorem runsQuietly_of_regs {g : Regs} (hx : exec i s = .next (spend m n { s with regs := g })) (hg : special g = special s.regs) :
    RunsQuietly i s := ⟨_, hx, ((Quiet.refl s).regs hg).spend m n⟩

theorem runsQuietly_of_spend {t : State} (hx : exec i s = .next (spend m n t)) (h : Quiet s t) : RunsQuietly i s := ⟨_, hx, h.spend m n⟩

/-- A conditional instruction: its time depends on whether the condition holds. -/
theorem runsQuietly_of_ite {c : Prop} [Decidable c] {k l : Nat} {t u : State}
    (hx : exec i s = .next (if c then spend m n t else spend k l u)) (ht : Quiet s t) (hu : Quiet s u) : RunsQuietly i s := by
  refine ⟨_, hx, ?_⟩
  split
  · exact ht.spend m n
  · exact hu.spend k l

end

/-- An ordinary instruction of the CPU that makes no port access runs quietly. -/
theorem ordinary_runsQuietly (i : Instr) (s : State) (hcpu : i.space = .cpu) (hspecial : writesSpecial i = false)
    (hport : isPortInstr i = false) : RunsQuietly i s := by
  have start := Quiet.refl s
  cases i
  case ldIA | ldRA | exAfAf | exx | halt | di | ei | retn | reti | retnMirror | im0 | im1 | im2 | im0Mirror | im1Mirror | im2Mirror |
    prefixCb | prefixDd | prefixEd | prefixFd | prefixDdcb | prefixFdcb | prefixEdIdx => cases hspecial
  case inAN | inRC | inFC | outNA | outCR | outC0 | ini | ind | inir | indr | outi | outd | otir | otdr => cases hport
  case fdcRestore | fdcSeek | fdcStep | fdcStepUpdate | fdcStepIn | fdcStepInUpdate | fdcStepOut | fdcStepOutUpdate | fdcReadSector |
    fdcReadSectors | fdcWriteSector | fdcWriteSectors | fdcReadAddress | fdcForceInterrupt | fdcReadTrack | fdcWriteTrack => cases hcpu
  case adcAAtHl | addAAtHl | andAtHl | cpAtHl | orAtHl | sbcAAtHl | subAtHl | xorAtHl | adcAAtIx | addAAtIx | andAtIx | cpAtIx | orAtIx |
    sbcAAtIx | subAtIx | xorAtIx | adcAAtIy | addAAtIy | andAtIy | cpAtIy | orAtIy | sbcAAtIy | subAtIy | xorAtIy =>
    exact runsQuietly_of_spend rfl (((start.read _).setR .a _).writeF _)
  case incAtHl | decAtHl | incAtIx | decAtIx | incAtIy | decAtIy | rlcAtHl | rrcAtHl | rlAtHl | rrAtHl | slaAtHl | sraAtHl | srlAtHl |
    rlcAtIx | rrcAtIx | rlAtIx | rrAtIx | slaAtIx | sraAtIx | srlAtIx | rlcAtIy | rrcAtIy | rlAtIy | rrAtIy | slaAtIy | sraAtIy | srlAtIy =>
    exact runsQuietly_of_spend rfl (((start.read _).write _ _).writeF _)
  case rlcAtIxR | rrcAtIxR | rlAtIxR | rrAtIxR | slaAtIxR | sraAtIxR | srlAtIxR | rlcAtIyR | rrcAtIyR | rlAtIyR | rrAtIyR | slaAtIyR |
    sraAtIyR | srlAtIyR =>
    exact runsQuietly_of_spend rfl ((((start.read _).write _ _).writeF _).setR _ _)
  case resAtHl | resAtIx | resAtIy | setAtHl | setAtIx | setAtIy => exact runsQuietly_of_spend rfl ((start.read _).write _ _)
  case resAtIxR | resAtIyR | setAtIxR | setAtIyR => exact runsQuietly_of_spend rfl (((start.read _).write _ _).setR _ _)
  case bitAtIx | bitAtIy | bitAtIxMirror | bitAtIyMirror => exact runsQuietly_of_spend rfl ((start.read _).writeF _)
  case bitAtHl => exact runsQuietly_of_spend rfl ((start.read _).writeFOpen _ _)
  case scf | ccf => exact runsQuietly_of_spend rfl (start.writeFOpen _ _)
  case rrd | rld => exact runsQuietly_of_spend rfl ((((start.read _).write _ _).setR .a _).writeF _)
  case rlcR | rrcR | rlR | rrR | slaR | sraR | srlR => exact runsQuietly_of_spend rfl ((start.setR _ _).writeF _)
  case incR | decR =>
    exact runsQuietly_of_spend rfl ((start.setRx .hl _ _).writeF _)
  case resR | setR | ldRN | ldRR => exact runsQuietly_of_spend rfl (start.setR _ _)
  case ldRRIx | ldRRIy => exact runsQuietly_of_spend rfl (start.setRx _ _ _)
  case ldDdNn | incSs | decSs => exact runsQuietly_of_spend rfl (start.setRp _ _)
  case ldRAtHl | ldRAtIx | ldRAtIy => exact runsQuietly_of_spend rfl ((start.read _).setR _ _)
  case ldAAtBc | ldAAtDe | ldAAtNn => exact runsQuietly_of_spend rfl ((start.read _).setR .a _)
  case ldAtBcA | ldAtDeA | ldAtNnA | ldAtHlN | ldAtHlR | ldAtIxN | ldAtIxR | ldAtIyN | ldAtIyR =>
    exact runsQuietly_of_spend rfl (start.write _ _)
  case ldAtNnDd | ldAtNnHl | ldAtNnHlEd | ldAtNnIx | ldAtNnIy => exact runsQuietly_of_spend rfl (start.writeWord _ _)
  case ldDdAtNn => exact runsQuietly_of_spend rfl ((start.readWord _).setRp _ _)
  case ldHlAtNn | ldHlAtNnEd => exact runsQuietly_of_spend rfl ((start.readWord _).setX .hl _)
  case ldIxAtNn => exact runsQuietly_of_spend rfl ((start.readWord _).setX .ix _)
  case ldIyAtNn => exact runsQuietly_of_spend rfl ((start.readWord _).setX .iy _)
  case pushQq | pushIx | pushIy => exact runsQuietly_of_spend rfl (start.push16 _)
  case popQq => exact runsQuietly_of_spend rfl (start.pop16.setRp2 _ _)
  case popIx => exact runsQuietly_of_spend rfl (start.pop16.setX .ix _)
  case popIy => exact runsQuietly_of_spend rfl (start.pop16.setX .iy _)
  case exAtSpHl | exAtSpIx | exAtSpIy => exact runsQuietly_of_spend rfl (start.exchangeStack _)
  case callNn | rst => exact runsQuietly_of_spend rfl (start.call _)
  case ret => exact runsQuietly_of_spend rfl start.pop16.jump
  case ldi | ldd => exact runsQuietly_of_spend rfl (start.blockLoad _)
  case cpi | cpd => exact runsQuietly_of_spend rfl (start.blockCompare _)
  case ldir | lddr => exact runsQuietly_of_ite rfl (start.blockLoad _) (start.blockLoad _).jump
  case cpir | cpdr => exact runsQuietly_of_ite rfl (start.blockCompare _) (start.blockCompare _).jump
  case djnz => exact runsQuietly_of_ite rfl (start.setR .b _) (start.setR .b _).jump
  case jrZ | jrNz | jrC | jrNc => exact runsQuietly_of_ite rfl start.jump start
  case retCc => exact runsQuietly_of_ite rfl start.pop16.jump start
  case callCcNn => exact runsQuietly_of_ite rfl (start.call _) start
  case jpCcNn => exact runsQuietly_of_spend rfl (by split <;> [exact start.jump; exact start])
  all_goals exact runsQuietly_of_regs rfl rfl

/-! ### The port instructions -/

section
variable {s t u : State}

theorem calm_of_portOnly (h : PortOnly s t) (htime : s.clock.lineCycle ≤ t.clock.lineCycle) : Calm s t :=
  ⟨congrArg special h.regs, h.ctl, h.clock, htime, h.mem⟩

theorem calm_portRead (p : Word) (s : State) : Calm s (portRead p s).2 :=
  calm_of_portOnly (portOnly_portRead p s) (portRead_lineCycle p s ▸ le_portChargedCycle p s)

theorem calm_portWrite (p : Word) (v : Byte) (s : State) : Calm s (portWrite p v s) :=
  calm_of_portOnly (portOnly_portWrite p v s) (portWrite_lineCycle p v s ▸ le_portChargedCycle p s)

end

theorem eq_of_exec {i : Instr} {s t u : State} (h : exec i s = .next t) (hu : exec i s = .next u) : t = u := by
  rw [h] at hu
  exact Host.Outcome.next.inj hu

section
variable {P : State → Prop} (quiet : ∀ {s t}, Quiet s t → P s → P t) (read : ∀ p s, P s → P (portRead p s).2)
  (write : ∀ p v s, P s → P (portWrite p v s))

include quiet read in
theorem blockIn_keeps (delta : Word) {s : State} (h : P s) : P (blockIn delta s) := by
  unfold blockIn
  refine unlessFault_keeps (fun u hu => ?_) (read _ _ h)
  exact quiet (((((Quiet.refl u).write _ _).setHl _).setR .b _).writeFOpen _ _) hu

include quiet write in
theorem blockOut_keeps (delta : Word) {s : State} (h : P s) : P (blockOut delta s) := by
  unfold blockOut
  refine unlessFault_keeps (fun u hu => ?_) (write _ _ _ (quiet (((Quiet.refl s).read _).setR .b _) h))
  exact quiet (((Quiet.refl u).setHl _).writeFOpen _ _) hu

include quiet in
theorem repeatIo_keeps (s : State) (h : P s) : P (repeatIo s) := by
  unfold repeatIo
  split
  · exact quiet ((Quiet.refl s).spend _ _) h
  · exact quiet ((Quiet.refl s).jump.spend _ _) h

include quiet read write in
/-- What quiet parts and port accesses keep, the port instructions keep. -/
theorem port_keeps {i : Instr} {s t : State} (hport : isPortInstr i = true) (hx : exec i s = .next t) (h : P s) : P t := by
  have spent (m n) (s : State) (h : P s) : P (spend m n s) := quiet ((Quiet.refl s).spend m n) h
  have taken (delta) := blockIn_keeps quiet read delta h
  have given (delta) := blockOut_keeps quiet write delta h
  cases i
  case outNA | outCR | outC0 => exact eq_of_exec hx rfl ▸ unlessFault_keeps (spent _ _) (write _ _ _ h)
  case inAN => exact eq_of_exec hx rfl ▸ unlessFault_keeps (fun u => quiet (((Quiet.refl u).setR .a _).spend _ _)) (read _ _ h)
  case inRC => exact eq_of_exec hx rfl ▸ unlessFault_keeps (fun u => quiet ((((Quiet.refl u).setR _ _).writeF _).spend _ _)) (read _ _ h)
  case inFC => exact eq_of_exec hx rfl ▸ unlessFault_keeps (fun u => quiet (((Quiet.refl u).writeF _).spend _ _)) (read _ _ h)
  case ini | ind => exact eq_of_exec hx rfl ▸ unlessFault_keeps (spent _ _) (taken _)
  case outi | outd => exact eq_of_exec hx rfl ▸ unlessFault_keeps (spent _ _) (given _)
  case inir | indr => exact eq_of_exec hx rfl ▸ unlessFault_keeps (repeatIo_keeps quiet) (taken _)
  case otir | otdr => exact eq_of_exec hx rfl ▸ unlessFault_keeps (repeatIo_keeps quiet) (given _)
  all_goals cases hport

end

/-- The instruction's next state is calm. -/
def RunsCalmly (i : Instr) (s : State) : Prop := ∃ t, exec i s = .next t ∧ Calm s t

theorem port_runsCalmly (i : Instr) (s : State) (hport : isPortInstr i = true) : RunsCalmly i s := by
  obtain ⟨t, hx⟩ := exec_answers i s
  have hcalm : Calm s t := port_keeps (P := Calm s) (fun k h => h.trans k.toCalm) (fun p u h => h.trans (calm_portRead p u))
    (fun p v u h => h.trans (calm_portWrite p v u)) hport hx (Quiet.refl s).toCalm
  exact ⟨t, hx, hcalm⟩

/-! ### The writers of the special registers and of the control state -/

/-- The instruction's next state is quiet but for the registers and the control state. -/
def RunsOnCpu (i : Instr) (s : State) : Prop := ∃ u g k, Quiet s u ∧ exec i s = .next { u with regs := g, ctl := k }

theorem special_runsOnCpu (i : Instr) (s : State) (hspecial : writesSpecial i = true) : RunsOnCpu i s := by
  have start := Quiet.refl s
  cases i
  case prefixCb | prefixEd | prefixDdcb | prefixFdcb | prefixEdIdx => exact ⟨s, _, _, start, rfl⟩
  case retn | reti | retnMirror => exact ⟨_, _, _, start.pop16.spend _ _, rfl⟩
  case ldIA | ldRA | exAfAf | exx | halt | di | ei | im0 | im1 | im2 | im0Mirror | im1Mirror | im2Mirror | prefixDd | prefixFd =>
    exact ⟨_, _, _, start.spend _ _, rfl⟩
  all_goals cases hspecial

/-- A command of the controller writes the controller alone. -/
theorem fdc_runsOnlyFdc (i : Instr) (s : State) (hfdc : i.space ≠ .cpu) : ∃ t, exec i s = .next t ∧ OnlyFdc s t := by
  have seek {g : State → State} (hg : ∀ t, OnlyFdc t (g t)) (t : State) : OnlyFdc t (g (engageMotor t)) :=
    (onlyFdc_engageMotor t).trans (hg _)
  cases i
  case fdcRestore | fdcSeek | fdcStep | fdcStepUpdate =>
    exact ⟨_, rfl, onlyFdc_fdcCommand _ _ _ _ (seek fun t => (OnlyFdc.refl t).mapFdc _) s⟩
  case fdcStepIn | fdcStepInUpdate | fdcStepOut | fdcStepOutUpdate =>
    exact ⟨_, rfl, onlyFdc_fdcCommand _ _ _ _ (fun t => ((onlyFdc_engageMotor t).mapFdc _).mapFdc _) s⟩
  case fdcReadSector | fdcReadSectors | fdcWriteSector | fdcWriteSectors | fdcReadAddress | fdcReadTrack | fdcWriteTrack =>
    exact ⟨_, rfl, onlyFdc_fdcCommand _ _ _ _ onlyFdc_startBusyCommand s⟩
  case fdcForceInterrupt => exact ⟨_, rfl, onlyFdc_fdcCommand _ _ _ _ OnlyFdc.refl s⟩
  all_goals cases hfdc rfl

/-- Every instruction runs quietly, as a port access, on the controller alone, or on the special registers and the control state. -/
theorem exec_cases (i : Instr) (s : State) :
    RunsQuietly i s ∨ (isPortInstr i = true ∧ RunsCalmly i s) ∨ (i.space ≠ .cpu ∧ ∃ t, exec i s = .next t ∧ OnlyFdc s t) ∨
      (writesSpecial i = true ∧ RunsOnCpu i s) := by
  by_cases hcpu : i.space = .cpu
  · cases hport : isPortInstr i with
    | true => exact .inr (.inl ⟨rfl, port_runsCalmly i s hport⟩)
    | false =>
      cases hspecial : writesSpecial i with
      | true => exact .inr (.inr (.inr ⟨rfl, special_runsOnCpu i s hspecial⟩))
      | false => exact .inl (ordinary_runsQuietly i s hcpu hspecial hport)
  · exact .inr (.inr (.inl ⟨hcpu, fdc_runsOnlyFdc i s hcpu⟩))

theorem calm_of_onlyFdc {s t : State} (h : OnlyFdc s t) : Calm s t :=
  ⟨congrArg special h.regs, h.ctl, by rw [h.clock], by rw [h.clock], fun hw => h.mem ▸ hw⟩

/-- An instruction that writes no special register runs calmly. -/
theorem runsCalmly_of_not_writesSpecial {i : Instr} {s : State} (h : writesSpecial i = false) : RunsCalmly i s := by
  rcases exec_cases i s with ⟨t, hx, hq⟩ | ⟨-, hrun⟩ | ⟨-, t, hx, hf⟩ | ⟨hw, -⟩
  · exact ⟨t, hx, hq.toCalm⟩
  · exact hrun
  · exact ⟨t, hx, calm_of_onlyFdc hf⟩
  · simp [h] at hw

/-- Settles O60: each of the four kinds of instruction but a port access leaves them. -/
theorem readOnlyMemoryIsKept : Obligations.ReadOnlyMemoryIsKept := by
  unfold Obligations.ReadOnlyMemoryIsKept
  intro i s t hwf hport hexec
  rcases exec_cases i s with ⟨u, hx, h⟩ | ⟨hp, -⟩ | ⟨hfdc, u, hx, h⟩ | ⟨-, u, g, k, h, hx⟩
  · obtain rfl := eq_of_exec hexec hx
    exact ⟨h.bytes hwf, h.events, h.sig, h.paging, h.fault, fun _ => h.fdc⟩
  · simp [hport] at hp
  · obtain rfl := eq_of_exec hexec hx
    exact ⟨fun a _ => by rw [State.byteAt, h.mem, State.byteAt], h.events, h.sig, h.paging, h.fault, fun hcpu => absurd hcpu hfdc⟩
  · obtain rfl := eq_of_exec hexec hx
    exact ⟨h.bytes hwf, h.events, h.sig, h.paging, h.fault, fun _ => h.fdc⟩

/-- What one of the named writers can write: the enable flip-flops, the mode, I, R, the shadow registers, the halt or the next index mode, each
its own; `table` and `after_ei_di` are open to all. -/
structure OwnWrites (i : Instr) (s t : State) : Prop where
  iffs : (t.ctl.iff1 ≠ s.ctl.iff1 ∨ t.ctl.iff2 ≠ s.ctl.iff2) → i = .ei ∨ i = .di ∨ i = .retn ∨ i = .reti ∨ ∃ y, i = .retnMirror y
  im : t.ctl.im ≠ s.ctl.im → i = .im0 ∨ i = .im1 ∨ i = .im2 ∨ (∃ y, i = .im0Mirror y) ∨ i = .im1Mirror ∨ i = .im2Mirror
  iReg : t.regs.i ≠ s.regs.i → i = .ldIA
  rReg : t.regs.r ≠ s.regs.r → i = .ldRA
  af : (t.regs.a' ≠ s.regs.a' ∨ t.regs.f' ≠ s.regs.f') → i = .exAfAf
  shadow : (t.regs.b' ≠ s.regs.b' ∨ t.regs.c' ≠ s.regs.c' ∨ t.regs.d' ≠ s.regs.d' ∨ t.regs.e' ≠ s.regs.e' ∨ t.regs.h' ≠ s.regs.h' ∨
      t.regs.l' ≠ s.regs.l') → i = .exx
  halted : t.ctl.halted ≠ s.ctl.halted → i = .halt
  idxNext : t.ctl.idxNext ≠ s.ctl.idxNext → i = .prefixDd ∨ i = .prefixFd
  idx : t.ctl.idx = s.ctl.idx

theorem Calm.ownWrites {i : Instr} {s t : State} (h : Calm s t) : OwnWrites i s t := by
  have hspecial := h.special
  simp only [Touches.special, List.cons.injEq, and_true] at hspecial
  constructor <;> simp [h.ctl, hspecial]

theorem ownWrites_of_special {i : Instr} {s t : State} (hspecial : writesSpecial i = true) (hx : exec i s = .next t) : OwnWrites i s t := by
  cases i
  case ldIA | ldRA | exAfAf | exx | halt | di | ei | im0 | im1 | im2 | im0Mirror | im1Mirror | im2Mirror | prefixCb | prefixDd | prefixEd |
    prefixFd | prefixDdcb | prefixFdcb | prefixEdIdx | retn | reti | retnMirror =>
    obtain rfl := eq_of_exec hx rfl
    constructor <;> simp [spend, addCycles, setIm, setIffs, setAfterEiDi, setHalted, setIdxNext, setTable, setPc, setI, setRefresh,
      returnFromInterrupt, pop16_eq, setSp]
  all_goals cases hspecial

/-- Every instruction moves the clock by its line-cycle counter alone, and forward. -/
theorem exec_clock {i : Instr} {s t : State} (hx : exec i s = .next t) :
    t.clock = { s.clock with lineCycle := t.clock.lineCycle } ∧ s.clock.lineCycle ≤ t.clock.lineCycle := by
  cases hspecial : writesSpecial i with
  | false =>
    obtain ⟨u, hu, h⟩ := runsCalmly_of_not_writesSpecial (s := s) hspecial
    obtain rfl := eq_of_exec hx hu
    exact ⟨h.clock, h.time⟩
  | true =>
    obtain ⟨u, g, k, h, hu⟩ := special_runsOnCpu i s hspecial
    obtain rfl := eq_of_exec hx hu
    exact ⟨h.clock, h.time⟩

/-- Settles O59: an instruction that is no named writer runs calmly. -/
theorem specialStateWriters : Obligations.SpecialStateWriters := by
  unfold Obligations.SpecialStateWriters
  intro i s t hx
  have hown : OwnWrites i s t := by
    cases hspecial : writesSpecial i with
    | false =>
      obtain ⟨u, hu, h⟩ := runsCalmly_of_not_writesSpecial (s := s) hspecial
      exact eq_of_exec hx hu ▸ h.ownWrites
    | true => exact ownWrites_of_special hspecial hx
  exact ⟨hown.iffs, hown.im, hown.iReg, hown.rReg, hown.af, hown.shadow, hown.halted, hown.idxNext, hown.idx, exec_clock hx⟩

end Sys2Proof.Proofs.Touches
end

section
/-! What the parts of a step keep, and time (60_exceptions.md R900, R942; 20_memory.md R207). -/

namespace Sys2Proof.Proofs.StepParts
open Sys2Proof Sys2Proof.Machine Sys2Proof.Proofs.StepAnswers Sys2Proof.Proofs.StepRuns Sys2Proof.Proofs.Touches

/-! ### Parts of a step on the CPU alone -/

/-- From `s` to `t` the registers, the control state, writable bytes and the line-cycle counter may have changed. -/
structure OnCpu (s t : State) : Prop where
  clock : t.clock = { s.clock with lineCycle := t.clock.lineCycle }
  time : s.clock.lineCycle ≤ t.clock.lineCycle
  wf : Memory.wf s.mem = true → Memory.wf t.mem = true
  sig : t.sig = s.sig
  events : t.events = s.events
  fdc : t.fdc = s.fdc

section
variable {s t u : State}

theorem OnCpu.trans (h : OnCpu s t) (k : OnCpu t u) : OnCpu s u where
  clock := by rw [k.clock, h.clock]
  time := h.time.trans k.time
  wf := k.wf ∘ h.wf
  sig := k.sig.trans h.sig
  events := k.events.trans h.events
  fdc := k.fdc.trans h.fdc

theorem onCpu_of_quiet (h : Quiet s t) : OnCpu s t := ⟨h.clock, h.time, h.wf, h.sig, h.events, h.fdc⟩

theorem OnCpu.refl (s : State) : OnCpu s s := onCpu_of_quiet (.refl s)

theorem OnCpu.quiet (h : OnCpu s t) (k : Quiet t u) : OnCpu s u := h.trans (onCpu_of_quiet k)

/-- Registers and control state written. -/
theorem OnCpu.write (h : OnCpu s t) (g : Regs) (k : Control) : OnCpu s { t with regs := g, ctl := k } :=
  ⟨h.clock, h.time, h.wf, h.sig, h.events, h.fdc⟩

theorem onCpu_saveReturn (s : State) : OnCpu s (saveReturn s) := by
  rw [saveReturn_eq]
  exact ((OnCpu.refl s).write _ _).quiet ((Quiet.refl _).push16 _)

theorem onCpu_takeInterrupt (src : IntSource) (s : State) : OnCpu s (takeInterrupt src s) := by
  have hsaved := onCpu_saveReturn s
  cases src with
  | nmi => exact (hsaved.write _ _).quiet ((Quiet.refl _).spend _ _)
  | maskable =>
    by_cases him : s.ctl.im = .im2
    · rw [takeInterrupt_table him]
      exact ((hsaved.write _ _).quiet ((Quiet.refl _).readWord _)).quiet ((Quiet.refl _).jump.spend _ _)
    · rw [takeInterrupt_fixed him]
      exact (hsaved.write _ _).quiet ((Quiet.refl _).spend _ _)

theorem onCpu_acceptInterrupt (s : State) : OnCpu s (acceptInterrupt s) := by
  unfold acceptInterrupt
  split
  · exact onCpu_takeInterrupt _ s
  · exact .refl s

theorem onCpu_fetch8 (s : State) : OnCpu s (fetch8 s).2 := onCpu_of_quiet ((Quiet.refl s).read _).jump

theorem onCpu_fetchOperands (n : Nat) (s : State) : OnCpu s (fetchOperands n s) := by
  induction n generalizing s with
  | zero => exact .refl s
  | succ n ih => exact (onCpu_fetch8 s).trans (ih _)

theorem onCpu_fetchInstr (s : State) : OnCpu s (fetchInstr s).2 := by
  have rest {first : State} (h : OnCpu s first) : OnCpu s (setTable .main (fetchOperands ((decodeAt s).2 - 1) first)) :=
    (h.trans (onCpu_fetchOperands _ _)).write _ _
  refine rest ?_
  split
  · exact onCpu_fetch8 s
  · exact onCpu_fetch8 s
  · exact (onCpu_fetch8 s).write _ _

/-- An instruction without a port access runs on the CPU alone. -/
theorem onCpu_exec {i : Instr} (hcpu : i.space = .cpu) (hport : isPortInstr i = false) (hx : exec i s = .next t) : OnCpu s t := by
  rcases exec_cases i s with ⟨u, hu, h⟩ | ⟨hp, -⟩ | ⟨hfdc, -⟩ | ⟨-, u, g, k, h, hu⟩
  · exact eq_of_exec hx hu ▸ onCpu_of_quiet h
  · simp [hport] at hp
  · exact absurd hcpu hfdc
  · exact eq_of_exec hx hu ▸ (onCpu_of_quiet h).write g k

end

/-! ### What the parts keep, the CPU's step keeps -/

section
variable {P : State → Prop} (cpu : ∀ {s t}, OnCpu s t → P s → P t)
  (port : ∀ {i s t}, isPortInstr i = true → exec i s = .next t → P s → P t)

include cpu port

theorem exec_fetched_keeps {s t : State} (h : P s) (hx : exec (fetchInstr s).1 (fetchInstr s).2 = .next t) : P t := by
  have hfetched := cpu (onCpu_fetchInstr s) h
  obtain ⟨i, n, hi, hspace⟩ := decodeAt_spec s
  have hcpu : (fetchInstr s).1.space = .cpu := by rwa [fetchInstr_of_decodeAt hi]
  cases hport : isPortInstr (fetchInstr s).1 with
  | false => exact cpu (onCpu_exec hcpu hport hx) hfetched
  | true => exact port hport hx hfetched

omit port in
theorem finishStep_keeps {i : Instr} {s t : State} (h : P s) (hx : finishStep i s = .next t) : P t := by
  rw [finishStep] at hx
  obtain rfl := Host.Outcome.next.inj hx
  split
  · exact h
  · exact cpu ((OnCpu.refl s).write _ _) h

theorem runSubTable_keeps {s t : State} (h : P s) (hx : runSubTable s = .next t) : P t := by
  obtain ⟨u, hu⟩ := exec_answers (fetchInstr s).1 (fetchInstr s).2
  simp only [runSubTable, hu] at hx
  exact finishStep_keeps cpu (exec_fetched_keeps cpu port h hu) hx

theorem afterCheck_keeps {s t : State} (h : P s) (hx : afterCheck s = .next t) : P t := by
  have haccepted := cpu (onCpu_acceptInterrupt s) h
  cases hhalted : (acceptInterrupt s).ctl.halted with
  | true =>
    rw [afterCheck_of_halted hhalted] at hx
    obtain rfl := Host.Outcome.next.inj hx
    exact cpu (((OnCpu.refl _).quiet ((Quiet.refl _).read _)).write _ _) haccepted
  | false =>
    rw [afterCheck_of_running hhalted] at hx
    obtain ⟨u, hu⟩ := exec_answers (fetchInstr (acceptInterrupt s)).1 (fetchInstr (acceptInterrupt s)).2
    have hran := exec_fetched_keeps cpu port haccepted hu
    simp only [runInstr, hu] at hx
    split at hx
    · exact finishStep_keeps cpu hran hx
    · exact runSubTable_keeps cpu port hran hx

end

/-- A step that answers is a frame boundary, an event check that raised the fault, or an event check and what follows it. -/
theorem step_cases {s t : State} (h : step s = .next t) :
    t = frameBoundary s ∨ t = eventCheck s ∨ afterCheck (eventCheck s) = .next t := by
  cases hfault : s.fault with
  | some f =>
    rw [step_of_fault hfault] at h
    cases h
  | none =>
    by_cases hb : atFrameBoundary s = true
    · rw [step_at_boundary hfault hb] at h
      exact .inl (Host.Outcome.next.inj h).symm
    · rw [step_off_boundary hfault hb] at h
      by_cases hcheck : (eventCheck s).fault = none
      · exact .inr (.inr (cpuStep_of_no_fault hcheck ▸ h))
      · exact .inr (.inl (Host.Outcome.next.inj (cpuStep_of_fault hcheck ▸ h)).symm)

/-! ### Time (R207) -/

/-- The counter and the mark as they were, the line-cycle counter not lowered. -/
structure Since (s t : State) : Prop where
  counter : t.clock.cycleCounter = s.clock.cycleCounter
  mark : t.clock.lineCycleMark = s.clock.lineCycleMark
  time : s.clock.lineCycle ≤ t.clock.lineCycle

section
variable {s t u : State}

theorem Since.of_clock (h : t.clock = { s.clock with lineCycle := t.clock.lineCycle }) (htime : s.clock.lineCycle ≤ t.clock.lineCycle) :
    Since s t := ⟨by rw [h], by rw [h], htime⟩

theorem Since.of_eq (h : t.clock = s.clock) : Since s t := ⟨by rw [h], by rw [h], by rw [h]⟩

theorem Since.trans (h : Since s t) (k : Since t u) : Since s u :=
  ⟨k.counter.trans h.counter, k.mark.trans h.mark, h.time.trans k.time⟩

theorem since_afterCheck (h : afterCheck s = .next t) : Since s t :=
  afterCheck_keeps (P := Since s) (fun k h => h.trans (.of_clock k.clock k.time))
    (fun _ hx h => h.trans (.of_clock (exec_clock hx).1 (exec_clock hx).2)) (.of_eq rfl) h

theorem hostAct_clock (x : HostAction) (s : State) : (hostAct x s).clock = s.clock := by
  cases x with
  | ext y => exact (onlyExt_extAct y s).clock
  | setNmi | setReset | setPaused | ejectDisk => rfl
  | insertDisk d =>
    simp only [hostAct, insertDisk]
    split <;> rfl

theorem hostServices_keeps {P : State → Prop} (act : ∀ x s, P s → P (hostAct x s)) (draw : ∀ s, P s → P s.nextDraw) (h : P s) :
    P (hostServices s) := by
  unfold hostServices runHost
  generalize Config.hostActions s.draws = acts
  replace h := draw s h
  generalize s.nextDraw = t at h
  induction acts generalizing t with
  | nil => exact h
  | cons x more ih => exact ih _ (EventDrain.unlessFault_keeps (act x) h)

theorem since_hostServices (s : State) : Since s (hostServices s) :=
  hostServices_keeps (P := Since s) (fun x t h => h.trans (.of_eq (hostAct_clock x t))) (fun _ h => h.trans (.of_eq rfl)) (.of_eq rfl)

theorem since_closeFrame (s : State) : Since s (closeFrame s) := by
  unfold closeFrame
  split
  · exact ⟨rfl, rfl, Nat.le_refl _⟩
  · exact .of_eq rfl

theorem since_pseudoInterrupts (s : State) : Since s (pseudoInterrupts s) := by
  unfold pseudoInterrupts
  split
  · exact ⟨rfl, rfl, Nat.le_refl _⟩
  · split
    · have htaken := onCpu_takeInterrupt .nmi (s.mapSig fun g => { g with nmiPending := false })
      exact .of_clock htaken.clock htaken.time
    · exact .of_eq rfl

theorem since_frameBoundary (s : State) : Since s (frameBoundary s) := by
  have hserved : Since s (hostServices (fdcFrameTick (closeFrame s))) :=
    ((since_closeFrame s).trans (.of_eq (onlyFdc_fdcFrameTick _).clock)).trans (since_hostServices _)
  exact EventDrain.unlessFault_keeps (P := Since s) (fun t h => h.trans (since_pseudoInterrupts t)) hserved

end

/-- Settles O48: the event check moves time from the line-cycle counter to the cycle counter; nothing else turns a counter back. -/
theorem timeIsMonotone : Obligations.TimeIsMonotone := by
  unfold Obligations.TimeIsMonotone
  intro s t hclock h
  obtain ⟨hcheck, -⟩ := Steps.eventCheckClock s
  have hmark := hclock.mark
  obtain rfl | rfl | hafter := step_cases h
  · obtain ⟨hcounter, hmark', htime⟩ := since_frameBoundary s
    omega
  · rw [hcheck]
    simp
  · obtain ⟨hcounter, hmark', htime⟩ := since_afterCheck hafter
    rw [hcheck] at hcounter hmark' htime
    simp only at hcounter hmark' htime
    omega

end Sys2Proof.Proofs.StepParts
end

section
/-! The controller's invariants through every operation of the controller (62_fdc.md R1185, R1110, R1128, R1143). -/

namespace Sys2Proof.Proofs.FdcInvariant
open Sys2Proof Sys2Proof.Machine Sys2Proof.Proofs.FdcRegisters Sys2Proof.Proofs.FdcTransfer Sys2Proof.Proofs.FdcLazy

/-! ### Writes and formats keep a byte in every data field -/

theorem putTrack_mem {k : TrackKey} {ss : List Sector} {l : List TrackEntry} {e : TrackEntry} (h : e ∈ putTrack k ss l) :
    e ∈ l ∨ e.sectors = ss := by
  induction l with
  | nil => exact .inr (congrArg TrackEntry.sectors (List.mem_singleton.mp h))
  | cons x rest ih =>
    unfold putTrack at h
    split at h
    · obtain rfl | h := List.mem_cons.mp h
      · exact .inr rfl
      · exact .inl (List.mem_cons_of_mem _ h)
    · obtain rfl | h := List.mem_cons.mp h
      · exact .inl List.mem_cons_self
      · exact (ih h).imp_left (List.mem_cons_of_mem _)

/-- Tracks stay so when the new one is. -/
theorem putTrack_hasBytes {k : TrackKey} {ss : List Sector} {l : List TrackEntry} (hl : ∀ t ∈ l, ∀ x ∈ t.sectors, sectorHasBytes x)
    (hss : ∀ x ∈ ss, sectorHasBytes x) : ∀ t ∈ putTrack k ss l, ∀ x ∈ t.sectors, sectorHasBytes x := fun t ht => by
  obtain ht | rfl := putTrack_mem ht
  · exact hl t ht
  · exact hss

theorem modify_hasBytes {bytes : List Byte} (hbytes : 0 < bytes.length) {l : List Sector} (hl : ∀ x ∈ l, sectorHasBytes x) (n : Nat) :
    ∀ x ∈ l.modify n (writtenSector bytes), sectorHasBytes x := fun x hx => by
  obtain ⟨i, hi, rfl⟩ := List.mem_iff_getElem.mp hx
  rw [List.getElem_modify]
  split
  · exact fun _ => hbytes
  · exact hl _ (List.getElem_mem _)

theorem diskOk_imageWriteData {d : DiskImage} (h : diskOk (some (.image d))) {bytes : List Byte} (hbytes : 0 < bytes.length) :
    diskOk (some (.image (imageWriteData bytes d).2)) := by
  obtain ⟨htracks, hcur⟩ := h
  unfold imageWriteData
  split
  · exact ⟨htracks, hcur⟩
  · split
    · exact ⟨htracks, hcur⟩
    · next n _ =>
      have hwritten := modify_hasBytes hbytes hcur n
      refine ⟨?_, hwritten⟩
      simp only
      split
      · exact htracks
      · exact putTrack_hasBytes htracks hwritten

theorem diskOk_imageFormatTrack {d : DiskImage} (h : diskOk (some (.image d))) (k : TrackKey) {ss : List (IdField × List Byte)}
    (hss : ∀ p ∈ ss, 0 < p.2.length) : diskOk (some (.image (imageFormatTrack k ss d).2)) := by
  obtain ⟨htracks, hcur⟩ := h
  unfold imageFormatTrack
  split
  · exact ⟨htracks, hcur⟩
  · refine ⟨putTrack_hasBytes htracks fun x hx => ?_, hcur⟩
    obtain ⟨p, hp, rfl⟩ := List.mem_map.mp hx
    exact fun _ => hss p hp

/-- Every data field of a format write has a byte in it, where the buffer holds the whole write. -/
theorem parseLoop_hasBytes {buf : List Byte} {len : Nat} (hbuf : len ≤ buf.length) (fuel p : Nat) (pending : Option IdField) :
    ∀ x ∈ parseLoop fuel buf len p pending, 0 < x.2.length := by
  induction fuel generalizing p pending with
  | zero => simp [parseLoop]
  | succ n ih =>
    have none_left : ∀ x ∈ ([] : List (IdField × List Byte)), 0 < x.2.length := by simp
    unfold parseLoop
    simp only
    cases pending with
    | none =>
      split_ifs
      · exact ih _ _
      · exact ih _ _
      · exact ih _ _
      · exact none_left
    | some id =>
      have hsize : 0 < Config.sectorSize id.size := by simp [sectorSize_eq]
      simp only
      split_ifs
      · exact ih _ _
      · exact none_left
      · refine List.forall_mem_cons.mpr ⟨?_, ih _ _⟩
        simp only [List.length_take, List.length_drop]
        omega
      · exact ih _ _
      · exact none_left

theorem parseFormat_hasBytes {buf : List Byte} {len : Nat} (hbuf : len ≤ buf.length) : ∀ x ∈ parseFormat buf len, 0 < x.2.length :=
  parseLoop_hasBytes hbuf len 3 none

/-- A disk of R1106 with no scan open has a byte in every data field. -/
theorem diskOk_fresh {d : Disk} (h : Disk.wf d = true) : diskOk (some (Disk.fresh d)) := by
  cases d with
  | device d => trivial
  | image d =>
    refine ⟨fun t ht x hx _ => ?_, fun x hx => absurd hx List.not_mem_nil⟩
    simp only [Disk.wf, List.all_eq_true, Bool.and_eq_true, sectorWf, decide_eq_true_eq] at h
    rw [(h t ht).2 x hx, sectorSize_eq]
    exact Nat.mul_pos (by decide) (Nat.two_pow_pos _)

/-! ### Completing calls: the status is within the error bits, and only the disk changes -/

theorem stRecordNotFound_error : stRecordNotFound &&& ~~~0x78#8 = 0#8 := by decide

theorem stWriteProtect_error : stWriteProtect &&& ~~~0x78#8 = 0#8 := by decide

theorem none_error : (0#8 : Byte) &&& ~~~0x78#8 = 0#8 := by decide

theorem imageWriteData_error (bytes : List Byte) (d : DiskImage) : (imageWriteData bytes d).1 &&& ~~~0x78#8 = 0#8 := by
  unfold imageWriteData
  split
  · exact stWriteProtect_error
  · split
    · exact stRecordNotFound_error
    · exact none_error

theorem imageFormatTrack_error (k : TrackKey) (ss : List (IdField × List Byte)) (d : DiskImage) :
    (imageFormatTrack k ss d).1 &&& ~~~0x78#8 = 0#8 := by
  unfold imageFormatTrack
  split
  · exact stWriteProtect_error
  · exact none_error

section
variable {s : State}

/-- What a call that completes a write leaves: an error status or none, and a disk in order. -/
structure Called (s : State) (r : Byte × State) : Prop where
  error : r.1 &&& ~~~0x78#8 = 0#8
  fdc : r.2.fdc = { s.fdc with disk := r.2.fdc.disk }
  disk : DiskOkIn r.2

theorem flush_called (h : DiskOkIn s) (hbytes : 0 < (s.fdc.buf.take s.fdc.bufLen).length) : Called s (flush s) := by
  cases hdisk : s.fdc.disk with
  | none => exact flush_of_none hdisk ▸ ⟨stRecordNotFound_error, rfl, h⟩
  | some d =>
    rw [DiskOkIn, hdisk] at h
    cases d with
    | image d =>
      rw [flush_of_image hdisk]
      exact ⟨imageWriteData_error _ d, rfl, diskOk_imageWriteData h hbytes⟩
    | device d =>
      rw [flush_of_device hdisk]
      have hmask : (0x70#8 &&& ~~~0x78#8 : Byte) = 0#8 := by decide
      refine ⟨?_, rfl, by rw [DiskOkIn, State.nextDraw_fdc, hdisk]; trivial⟩
      rw [BitVec.and_assoc, hmask, BitVec.and_zero]

theorem diskFormatTrack_called (h : DiskOkIn s) {ss : List (IdField × List Byte)} (hss : ∀ p ∈ ss, 0 < p.2.length) :
    Called s (diskFormatTrack ss s) := by
  cases hdisk : s.fdc.disk with
  | none => exact diskFormatTrack_of_none ss hdisk ▸ ⟨stRecordNotFound_error, rfl, h⟩
  | some d =>
    rw [DiskOkIn, hdisk] at h
    cases d with
    | image d =>
      rw [diskFormatTrack_of_image ss hdisk]
      exact ⟨imageFormatTrack_error _ ss d, rfl, diskOk_imageFormatTrack h _ hss⟩
    | device d =>
      rw [diskFormatTrack_of_device ss hdisk]
      have hmask : (0x40#8 &&& ~~~0x78#8 : Byte) = 0#8 := by decide
      refine ⟨?_, rfl, by rw [DiskOkIn, State.nextDraw_fdc, hdisk]; trivial⟩
      rw [BitVec.and_assoc, hmask, BitVec.and_zero]

end

/-! ### The two ends of a part of a command (R1142) -/

/-- Ending a command with error bits clears BUSY and leaves the bits the controller keeps. -/
theorem ended_status (v : Byte) {st : Byte} (hst : st &&& ~~~0x78#8 = 0#8) :
    ((v ||| st) &&& 0xFE#8).getLsbD 0 = false ∧ ((v ||| st) &&& 0xFE#8).getLsbD 1 = v.getLsbD 1 ∧
      ((v ||| st) &&& 0xFE#8).getLsbD 2 = v.getLsbD 2 ∧ ((v ||| st) &&& 0xFE#8).getLsbD 7 = v.getLsbD 7 := by
  have outside : ∀ st : Byte, st &&& ~~~0x78#8 = 0#8 →
      st.getLsbD 1 = false ∧ st.getLsbD 2 = false ∧ st.getLsbD 7 = false := by decide
  obtain ⟨h1, h2, h7⟩ := outside st hst
  simp only [BitVec.getLsbD_and, BitVec.getLsbD_or, h1, h2, h7, Bool.or_false]
  exact ⟨Bool.and_false _, Bool.and_true _, Bool.and_true _, Bool.and_true _⟩

/-- Arming a transfer sets DRQ and leaves the bits the controller keeps. -/
theorem armed_status (v : Byte) {shown : Byte} (hshown : shown &&& ~~~stDeletedData = 0#8) :
    (v ||| 0x02#8 ||| shown).getLsbD 0 = v.getLsbD 0 ∧ (v ||| 0x02#8 ||| shown).getLsbD 2 = v.getLsbD 2 ∧
      (v ||| 0x02#8 ||| shown).getLsbD 7 = v.getLsbD 7 := by
  have outside : ∀ st : Byte, st &&& ~~~stDeletedData = 0#8 →
      st.getLsbD 0 = false ∧ st.getLsbD 2 = false ∧ st.getLsbD 7 = false := by decide
  obtain ⟨h0, h2, h7⟩ := outside shown hshown
  simp only [BitVec.getLsbD_or, h0, h2, h7, Bool.or_false]
  exact ⟨Bool.or_false _, Bool.or_false _, Bool.or_false _⟩

/-- The controller is in order, and a command is in flight that transfers nothing. -/
structure InFlight (f : Fdc) : Prop where
  ok : FdcOk f
  busy : f.status.getLsbD 0 = true
  idle : f.status.getLsbD 1 = false

section
variable {f g : Fdc} {s : State}

/-- A change of the disk, to one in order. -/
theorem fdcOk_withDisk (h : FdcOk f) {d : Option Disk} (hd : diskOk d) : FdcOk { f with disk := d } :=
  ⟨h.drq, h.busy, h.lost, h.motor, h.head, h.held, hd⟩

theorem fdcOk_endStatus (h : FdcOk f) (hidle : f.status.getLsbD 1 = false) {st : Byte} (hst : st &&& ~~~0x78#8 = 0#8) :
    FdcOk { f with status := (f.status ||| st) &&& 0xFE#8 } := by
  obtain ⟨h0, h1, h2, h7⟩ := ended_status f.status hst
  exact ⟨fun hdrq => by simp only [h1, hidle] at hdrq; contradiction, fun hbusy => by simp only [h0] at hbusy; contradiction,
    h2.trans h.lost, h7.trans h.motor, h.head, h.held, h.disk⟩

theorem fdcOk_endCommand (h : FdcOk s.fdc) (hidle : s.fdc.status.getLsbD 1 = false) {st : Byte} (hst : st &&& ~~~0x78#8 = 0#8) :
    FdcOk (endCommand st s).fdc := fdcOk_endStatus h hidle hst

theorem InFlight.ranOn (h : InFlight f) (hran : RanOn f g) (hdisk : diskOk g.disk) : FdcOk g := by
  obtain ⟨hok, hbusy, hidle⟩ := h
  obtain ⟨st, id, -, hst, disk, rfl⟩ | ⟨buf, len, held, shown, id, hlen, hheld, hshown, disk, rfl⟩ := hran
  · have hended := fdcOk_endStatus hok hidle hst
    exact ⟨hended.drq, hended.busy, hended.lost, hended.motor, hended.head, hended.held, hdisk⟩
  · obtain ⟨h0, h2, h7⟩ := armed_status f.status hshown
    exact ⟨fun _ => ⟨h0.trans hbusy, hok.busy hbusy, hlen⟩, fun _ => hok.busy hbusy, h2.trans hok.lost, h7.trans hok.motor, hok.head,
      hheld, hdisk⟩

/-- Running on, with any command latched. -/
theorem executeNext_ranOn_or_same (h : DiskOkIn s) :
    (∃ n, (executeNext s).fdc = { s.fdc with state := n } ∨ RanOn { s.fdc with state := n } (executeNext s).fdc) ∧
      DiskOkIn (executeNext s) := by
  by_cases hcmd : s.fdc.cmd ∈ runningCommands
  · obtain ⟨hsame | ⟨n, hran⟩, hdisk⟩ := executeNext_ranOn h hcmd
    · exact ⟨⟨s.fdc.state, .inl hsame⟩, hdisk⟩
    · exact ⟨⟨n, .inr hran⟩, hdisk⟩
  · cases hdisk : s.fdc.disk with
    | none =>
      have heq : executeNext s = Machine.endCommand stRecordNotFound s := by simp [executeNext, hdisk]
      exact heq ▸ ⟨⟨s.fdc.state, .inr (.not_found false ((Looked.of_onlyDisk (.refl s)).endCommand _))⟩, h⟩
    | some d =>
      have hkept : DiskOkIn (diskIsBusy s).2 := by rwa [DiskOkIn, diskIsBusy_fdc]
      rw [executeNext_of_disk hdisk]
      split_ifs with hbusy herror
      · exact ⟨⟨s.fdc.state, .inl (diskIsBusy_fdc s)⟩, hkept⟩
      · have herr := diskIsBusy_error s
        exact ⟨⟨s.fdc.state, .inr (.inl ⟨_, _, error_of_ne_zero herr herror, herr,
          (Looked.of_onlyDisk (onlyDisk_diskIsBusy s)).endCommand _⟩)⟩, hkept⟩
      · have hfdc : ((diskIsBusy s).2.mapFdc startedFdc).fdc = startedFdc s.fdc := by rw [State.mapFdc_fdc, diskIsBusy_fdc]
        have hsame : execCommand ((diskIsBusy s).2.mapFdc startedFdc) = (diskIsBusy s).2.mapFdc startedFdc := by
          simp only [runningCommands, List.mem_cons, List.not_mem_nil, or_false, not_or] at hcmd
          simp [execCommand, diskIsBusy_fdc, hcmd]
        rw [hsame]
        exact ⟨⟨_, .inl hfdc⟩, hkept⟩

theorem InFlight.executeNext (h : InFlight s.fdc) : FdcOk (executeNext s).fdc := by
  obtain ⟨⟨n, hsame | hran⟩, hdisk⟩ := executeNext_ranOn_or_same (s := s) h.ok.disk
  · obtain ⟨hok, -, -⟩ := h
    rw [hsame]
    exact ⟨hok.drq, hok.busy, hok.lost, hok.motor, hok.head, hok.held, hok.disk⟩
  · obtain ⟨hok, hbusy, hidle⟩ := h
    have hstarted : InFlight { s.fdc with state := n } :=
      ⟨⟨hok.drq, hok.busy, hok.lost, hok.motor, hok.head, hok.held, hok.disk⟩, hbusy, hidle⟩
    exact hstarted.ranOn hran hdisk

theorem InFlight.nextSector (h : InFlight s.fdc) : FdcOk (nextSector s).fdc := by
  obtain ⟨hok, hbusy, hidle⟩ := h
  have hmoved : InFlight (s.mapFdc fun f => { f with sector := f.sector + 1#8 }).fdc :=
    ⟨⟨hok.drq, hok.busy, hok.lost, hok.motor, hok.head, hok.held, hok.disk⟩, hbusy, hidle⟩
  exact hmoved.executeNext

theorem InFlight.called (h : InFlight s.fdc) {r : Byte × State} (hr : Called s r) : InFlight r.2.fdc := by
  rw [hr.fdc]
  exact ⟨fdcOk_withDisk h.ok hr.disk, h.busy, h.idle⟩

/-! ### Completion and the data register (R1150 to R1152) -/

/-- The held-back data status is within the error bits (R1143). -/
theorem held_error (h : FdcOk f) : f.dataStatus &&& ~~~0x78#8 = 0#8 := by
  have within : ∀ v : Byte, v &&& ~~~stCrcError = 0#8 → v &&& ~~~0x78#8 = 0#8 := by decide
  exact within _ h.held

/-- A completion keeps the controller in order; a write's buffer holds the whole write. -/
theorem InFlight.complete (h : InFlight s.fdc)
    (hbuf : fdcIsWrite s.fdc.cmd = true → 0 < s.fdc.bufLen ∧ s.fdc.bufLen ≤ s.fdc.buf.length) : FdcOk (complete s).fdc := by
  have ends {st : Byte} (hst : st &&& ~~~0x78#8 = 0#8) : FdcOk (endCommand st s).fdc := fdcOk_endCommand h.ok h.idle hst
  have flushed (hwrite : fdcIsWrite s.fdc.cmd = true) : Called s (flush s) := by
    obtain ⟨hpos, hfull⟩ := hbuf hwrite
    exact flush_called h.ok.disk (by rw [List.length_take]; omega)
  by_cases h80 : s.fdc.cmd = 0x80#8
  · exact complete_readSector h80 ▸ ends (held_error h.ok)
  by_cases h90 : s.fdc.cmd = 0x90#8
  · rw [complete_readSectors h90]
    split
    · exact h.nextSector
    · exact ends (by decide)
  by_cases hA0 : s.fdc.cmd = 0xA0#8
  · have hcalled := flushed (by rw [hA0]; decide)
    exact complete_writeSector hA0 ▸ fdcOk_endCommand (h.called hcalled).ok (h.called hcalled).idle hcalled.error
  by_cases hB0 : s.fdc.cmd = 0xB0#8
  · have hcalled := flushed (by rw [hB0]; decide)
    rw [complete_writeSectors hB0]
    split
    · exact (h.called hcalled).nextSector
    · exact fdcOk_endCommand (h.called hcalled).ok (h.called hcalled).idle hcalled.error
  by_cases hC0 : s.fdc.cmd = 0xC0#8
  · rw [complete_readAddress hC0]
    have hended := fdcOk_endStatus h.ok h.idle (held_error h.ok)
    exact ⟨hended.drq, hended.busy, hended.lost, hended.motor, hended.head, hended.held, hended.disk⟩
  by_cases hE0 : s.fdc.cmd = 0xE0#8
  · exact complete_readTrack hE0 ▸ ends none_error
  by_cases hF0 : s.fdc.cmd = 0xF0#8
  · obtain ⟨-, hfull⟩ := hbuf (by rw [hF0]; decide)
    have hcalled := diskFormatTrack_called (s := s) h.ok.disk (parseFormat_hasBytes hfull)
    exact complete_writeTrack hF0 ▸ fdcOk_endCommand (h.called hcalled).ok (h.called hcalled).idle hcalled.error
  · have hother : Machine.complete s = s := by simp [Machine.complete, h80, h90, hA0, hB0, hC0, hE0, hF0]
    rw [hother]
    exact h.ok

/-- One byte moved of an armed transfer; a write's buffer holds the byte. -/
theorem advanceTransfer_ok (h : FdcOk s.fdc) (hdrq : s.fdc.status.getLsbD 1 = true)
    (hbuf : fdcIsWrite s.fdc.cmd = true → s.fdc.bufPos < s.fdc.buf.length) : FdcOk (advanceTransfer s).fdc := by
  obtain ⟨hbusy, htype, hroom⟩ := h.drq hdrq
  by_cases hlast : s.fdc.bufPos + 1 = s.fdc.bufLen
  · rw [advanceTransfer_of_last hlast]
    have hclear : (s.fdc.status &&& 0xFD#8).getLsbD 1 = false := by rw [BitVec.getLsbD_and]; exact Bool.and_false _
    have hkept : (s.fdc.status &&& 0xFD#8).getLsbD 0 = s.fdc.status.getLsbD 0 ∧
        (s.fdc.status &&& 0xFD#8).getLsbD 2 = s.fdc.status.getLsbD 2 ∧
        (s.fdc.status &&& 0xFD#8).getLsbD 7 = s.fdc.status.getLsbD 7 := by
      simp only [BitVec.getLsbD_and]
      exact ⟨Bool.and_true _, Bool.and_true _, Bool.and_true _⟩
    obtain ⟨h0, h2, h7⟩ := hkept
    refine InFlight.complete ⟨⟨fun hset => ?_, fun _ => htype, h2.trans h.lost, h7.trans h.motor, h.head, h.held, h.disk⟩,
      h0.trans hbusy, hclear⟩ fun hwrite => ?_
    · rw [hclear] at hset
      contradiction
    · have hpos := hbuf hwrite
      exact ⟨by simp only; omega, by simp only; omega⟩
  · rw [advanceTransfer_of_not_last hlast]
    exact ⟨fun _ => ⟨hbusy, htype, by simp only; omega⟩, h.busy, h.lost, h.motor, h.head, h.held, h.disk⟩

theorem fdcDataRead_ok (h : FdcOk s.fdc) : FdcOk (fdcDataRead s).2.fdc := by
  by_cases harmed : ReadArmed s.fdc
  · rw [fdcDataRead_of_armed harmed]
    obtain ⟨hdrq, hread⟩ := harmed
    exact advanceTransfer_ok ⟨h.drq, h.busy, h.lost, h.motor, h.head, h.held, h.disk⟩ hdrq fun hwrite => absurd hwrite hread
  · exact fdcDataRead_of_not_armed harmed ▸ h

theorem lt_length_putAt (buf : List Byte) (p : Nat) (v : Byte) : p < (putAt buf p v).length := by
  induction p generalizing buf with
  | zero => cases buf <;> exact Nat.succ_pos _
  | succ n ih => cases buf <;> exact Nat.succ_lt_succ (ih _)

theorem fdcDataWrite_ok (h : FdcOk s.fdc) (v : Byte) : FdcOk (fdcDataWrite v s).fdc := by
  by_cases harmed : WriteArmed s.fdc
  · rw [fdcDataWrite_of_armed harmed]
    exact advanceTransfer_ok ⟨h.drq, h.busy, h.lost, h.motor, h.head, h.held, h.disk⟩ harmed.1 fun _ => lt_length_putAt _ _ v
  · rw [fdcDataWrite_of_not_armed harmed]
    exact ⟨h.drq, h.busy, h.lost, h.motor, h.head, h.held, h.disk⟩

/-! ### The status register (R1140, R1141) -/

theorem indexPulse_ok (h : FdcOk s.fdc) : FdcOk (indexPulse s).2.fdc := by
  unfold indexPulse
  split
  · exact h
  · exact ⟨h.drq, h.busy, h.lost, h.motor, h.head, h.held, h.disk⟩

theorem fdcStatusRead_ok (h : FdcOk s.fdc) : FdcOk (fdcStatusRead s).2.fdc := by
  have hran : FdcOk (if fdcBusy s && !fdcDrq s then Machine.executeNext s else s).fdc := by
    split
    · next hflight =>
      rw [Bool.and_eq_true, Bool.not_eq_true'] at hflight
      exact InFlight.executeNext ⟨h, hflight.1, hflight.2⟩
    · exact h
  unfold fdcStatusRead
  simp only
  generalize (if (fdcBusy s && !fdcDrq s) = true then Machine.executeNext s else s) = t at hran
  split
  · exact indexPulse_ok hran
  · exact hran

/-! ### Command writes (R1115, R1116, R1120 to R1138) -/

/-- A controller that is not busy is in order when its status, motor, head, held-back status and disk are. -/
theorem fdcOk_of_idle (hbusy : f.status.getLsbD 0 = false) (hdrq : f.status.getLsbD 1 = false) (hlost : f.status.getLsbD 2 = false)
    (hmotor : f.status.getLsbD 7 = decide (0 < f.motorFrames)) (hhead : f.head ≤ Config.headMax)
    (hheld : f.dataStatus &&& ~~~stCrcError = 0#8) (hdisk : diskOk f.disk) : FdcOk f :=
  ⟨fun h => by rw [hdrq] at h; contradiction, fun h => by rw [hbusy] at h; contradiction, hlost, hmotor, hhead, hheld, hdisk⟩

/-- The status that accepting a command leaves. -/
theorem accepted_status (v : Byte) : (v &&& stMotorOn).getLsbD 0 = false ∧ (v &&& stMotorOn).getLsbD 1 = false ∧
    (v &&& stMotorOn).getLsbD 2 = false ∧ (v &&& stMotorOn).getLsbD 7 = v.getLsbD 7 := by
  simp only [BitVec.getLsbD_and]
  exact ⟨Bool.and_false _, Bool.and_false _, Bool.and_false _, Bool.and_true _⟩

theorem accepted_or_motor (v : Byte) : v &&& stMotorOn ||| stMotorOn = 0x80#8 := by
  have key : ∀ v : Byte, v &&& stMotorOn ||| stMotorOn = 0x80#8 := by decide
  exact key v

theorem acceptCommand_ok (h : FdcOk s.fdc) (code : Byte) (side : Bool) (flags : BitVec 4) :
    FdcOk (acceptCommand code side flags s).fdc := by
  obtain ⟨h0, h1, h2, h7⟩ := accepted_status s.fdc.status
  exact fdcOk_of_idle h0 h1 h2 (h7.trans h.motor) h.head (BitVec.zero_and) h.disk

/-- What an accepted command has, once the motor is engaged. -/
structure Engaged (code : Byte) (f : Fdc) : Prop where
  status : f.status = 0x80#8
  cmd : f.cmd = code
  frames : 0 < f.motorFrames
  head : f.head ≤ Config.headMax
  held : f.dataStatus = 0#8
  disk : diskOk f.disk

theorem engaged_acceptCommand (h : FdcOk s.fdc) (code : Byte) (side : Bool) (flags : BitVec 4) :
    Engaged code (engageMotor (acceptCommand code side flags s)).fdc :=
  ⟨accepted_or_motor _, rfl, (by decide : 0 < Config.motorActiveFrames), h.head, rfl, h.disk⟩

theorem Engaged.ok {code : Byte} (h : Engaged code f) : FdcOk f :=
  fdcOk_of_idle (h.status ▸ rfl) (h.status ▸ rfl) (h.status ▸ rfl) (by rw [h.status, decide_eq_true h.frames]; rfl) h.head
    (by rw [h.held]; exact BitVec.zero_and) h.disk

/-- A type 1 command moves the head within its range. -/
theorem Engaged.moved {code : Byte} (h : Engaged code f) {head : Nat} (hhead : head ≤ Config.headMax) (track : Byte) (dirIn : Bool) :
    FdcOk { f with head := head, track := track, dirIn := dirIn } := by
  obtain ⟨hstatus, hcmd, hframes, -, hheld, hdisk⟩ := h
  exact Engaged.ok (code := code) ⟨hstatus, hcmd, hframes, hhead, hheld, hdisk⟩

theorem Engaged.restoreHead {code : Byte} (h : Engaged code s.fdc) : FdcOk (restoreHead s).fdc := h.moved (Nat.zero_le _) _ _

theorem Engaged.stepHead {code : Byte} (h : Engaged code s.fdc) (update : Bool) : FdcOk (stepHead update s).fdc := by
  unfold Machine.stepHead
  rw [State.mapFdc_fdc]
  split
  · exact h.moved (Nat.min_le_left ..) _ _
  · exact h.moved ((Nat.sub_le ..).trans h.head) _ _

theorem Engaged.seekHead {code : Byte} (h : Engaged code s.fdc) : FdcOk (seekHead s).fdc := by
  unfold Machine.seekHead
  rw [State.mapFdc_fdc]
  split
  · exact h.moved (Nat.min_le_left ..) _ _
  · split
    · exact h.moved ((Nat.sub_le ..).trans h.head) _ _
    · exact h.ok

theorem Engaged.setDirIn {code : Byte} (h : Engaged code s.fdc) (dirIn : Bool) : Engaged code (setDirIn dirIn s).fdc :=
  ⟨h.status, h.cmd, h.frames, h.head, h.held, h.disk⟩

/-- A command accepted in order and carried out in order. -/
theorem fdcCommand_ok (h : FdcOk s.fdc) (code : Byte) (side : Bool) (flags : BitVec 4) {effect : State → State}
    (heffect : FdcOk (effect (acceptCommand code side flags s)).fdc) : FdcOk (fdcCommand code side flags effect s).fdc := by
  unfold fdcCommand
  split
  · exact h
  · exact heffect

theorem diskIsReadOnly_fdc (s : State) : (diskIsReadOnly s).2.fdc = s.fdc := by
  unfold diskIsReadOnly
  split
  · rfl
  · next d _ => cases d <;> rfl

/-- The engaged controller with BUSY or WRITE_PROTECT set, for a command of type 2 or 3. -/
theorem Engaged.orStatus {code : Byte} (hcode : statusIsType1 code = false) (h : Engaged code s.fdc) {v : Byte}
    (hv : v = stBusy ∨ v = stWriteProtect) : FdcOk (orStatus v s).fdc := by
  obtain ⟨hstatus, hcmd, hframes, hhead, hheld, hdisk⟩ := h
  have bits : ∀ v, v = stBusy ∨ v = stWriteProtect →
      (0x80#8 ||| v).getLsbD 1 = false ∧ (0x80#8 ||| v).getLsbD 2 = false ∧ (0x80#8 ||| v).getLsbD 7 = true := by decide
  obtain ⟨h1, h2, h7⟩ := bits v hv
  rw [← hstatus] at h1 h2 h7
  have hheld_error : s.fdc.dataStatus &&& ~~~stCrcError = 0#8 := by rw [hheld]; exact BitVec.zero_and
  exact ⟨fun hset => absurd hset (by rw [Bool.not_eq_true]; exact h1), fun _ => hcmd ▸ hcode, h2,
    h7.trans (decide_eq_true hframes).symm, hhead, hheld_error, hdisk⟩

theorem startBusyCommand_ok (h : FdcOk s.fdc) {code : Byte} (hcode : statusIsType1 code = false) (side : Bool) (flags : BitVec 4) :
    FdcOk (startBusyCommand (acceptCommand code side flags s)).fdc := by
  have hengaged := engaged_acceptCommand h code side flags
  unfold startBusyCommand
  simp only
  generalize engageMotor (acceptCommand code side flags s) = t at hengaged
  have hasked : Engaged code (if fdcIsWrite t.fdc.cmd then diskIsReadOnly t else (false, t)).2.fdc := by
    split
    · exact diskIsReadOnly_fdc t ▸ hengaged
    · exact hengaged
  generalize (if fdcIsWrite t.fdc.cmd then diskIsReadOnly t else (false, t) : Bool × State) = r at hasked
  split
  · exact hasked.orStatus hcode (.inr rfl)
  · exact hasked.orStatus hcode (.inl rfl)

theorem fdcCommandWrite_ok (h : FdcOk s.fdc) (side : Bool) (v : Byte) : FdcOk (fdcCommandWrite side v s).fdc := by
  have engaged (code) (flags) := engaged_acceptCommand h code side flags
  unfold fdcCommandWrite
  simp only
  split
  case h_1 => exact fdcCommand_ok h _ _ _ (engaged _ _).restoreHead
  case h_2 => exact fdcCommand_ok h _ _ _ (engaged _ _).seekHead
  case h_3 | h_4 => exact fdcCommand_ok h _ _ _ ((engaged _ _).stepHead _)
  case h_5 | h_6 | h_7 | h_8 => exact fdcCommand_ok h _ _ _ (((engaged _ _).setDirIn _).stepHead _)
  case h_14 => exact fdcCommand_ok h _ _ _ (acceptCommand_ok h _ _ _)
  all_goals exact fdcCommand_ok h _ _ _ (startBusyCommand_ok h rfl _ _)

/-! ### Ports, the frame tick and the drive (R1102, R1103, R1180, R1107) -/

theorem fdcIn_ok (h : FdcOk s.fdc) (port : Word) : FdcOk (fdcIn port s).2.fdc := by
  unfold fdcIn
  split
  · exact fdcStatusRead_ok h
  · exact h
  · exact h
  · exact fdcDataRead_ok h

theorem fdcOut_ok (h : FdcOk s.fdc) (port : Word) (v : Byte) : FdcOk (fdcOut port v s).fdc := by
  unfold fdcOut
  split
  · exact fdcCommandWrite_ok h _ v
  · exact ⟨h.drq, h.busy, h.lost, h.motor, h.head, h.held, h.disk⟩
  · exact ⟨h.drq, h.busy, h.lost, h.motor, h.head, h.held, h.disk⟩
  · exact fdcDataWrite_ok h v

/-- The motor off, the other status bits kept. -/
theorem fdcFrameTick_ok (h : FdcOk s.fdc) : FdcOk (Machine.fdcFrameTick s).fdc := by
  obtain ⟨hstill, hlast, hturning⟩ := FdcRegisters.fdcFrameTick s
  obtain hn | hn | hn : s.fdc.motorFrames = 0 ∨ s.fdc.motorFrames = 1 ∨ 1 < s.fdc.motorFrames := by omega
  · rw [hstill hn]
    exact h
  · rw [hlast hn]
    have hbits (k) (hk : (0x7F#8).getLsbD k = true) : (s.fdc.status &&& 0x7F#8).getLsbD k = s.fdc.status.getLsbD k := by
      rw [BitVec.getLsbD_and, hk, Bool.and_true]
    have hoff : (s.fdc.status &&& 0x7F#8).getLsbD 7 = false := by
      rw [BitVec.getLsbD_and]
      exact Bool.and_false _
    exact ⟨fun hdrq => by rw [hbits 1 rfl] at hdrq; rw [hbits 0 rfl]; exact h.drq hdrq,
      fun hbusy => by rw [hbits 0 rfl] at hbusy; exact h.busy hbusy, (hbits 2 rfl).trans h.lost, hoff, h.head, h.held, h.disk⟩
  · rw [hturning hn]
    refine ⟨h.drq, h.busy, h.lost, h.motor.trans ?_, h.head, h.held, h.disk⟩
    rw [decide_eq_decide]
    simp only
    omega

/-- The controller after a reset, with the drive's disk. -/
theorem fdcOk_reset {d : Option Disk} (h : diskOk d) : FdcOk { Fdc.reset with disk := d } :=
  have hreset : FdcOk Fdc.reset := ⟨by decide, by decide, by decide, by decide, by decide, by decide, trivial⟩
  fdcOk_withDisk hreset h

end

end Sys2Proof.Proofs.FdcInvariant
end

section
/-! The invariant through every step (R1003, R124, R126, R128, R130, R1185). -/

namespace Sys2Proof.Proofs.Invariant
open Sys2Proof Sys2Proof.Machine Sys2Proof.Proofs.EventDrain Sys2Proof.Proofs.Ports Sys2Proof.Proofs.Touches Sys2Proof.Proofs.StepAnswers
  Sys2Proof.Proofs.StepRuns Sys2Proof.Proofs.StepParts Sys2Proof.Proofs.FdcInvariant

/-- The invariant but for the `table` latch, which changes in the middle of a step. -/
structure Order (s : State) : Prop where
  mem : Memory.wf s.mem = true
  queue : QueueOk s.events
  clock : ClockOk s.clock
  fdc : FdcOk s.fdc
  intHigh : s.sig.intStatus &&& 0xE0#8 = 0xE0#8

section
variable {s t : State}

theorem Order.onCpu (h : OnCpu s t) (k : Order s) : Order t where
  mem := h.wf k.mem
  queue := h.events ▸ k.queue
  clock := h.clock ▸ ⟨k.clock.mark.trans h.time, k.clock.contended, k.clock.ended⟩
  fdc := h.fdc ▸ k.fdc
  intHigh := h.sig ▸ k.intHigh

theorem Order.quiet (k : Order s) (h : Quiet s t) : Order t := k.onCpu (onCpu_of_quiet h)

/-! ### The outside (R236, R1035) -/

theorem order_extAct (x : ExtAction) (s : State) (h : Order s) : Order (extAct x s) := by
  have hext := onlyExt_extAct x s
  refine ⟨hext.mem h.mem, queueOk_extAct x h.queue, hext.clock ▸ h.clock, hext.fdc ▸ h.fdc, ?_⟩
  cases x with
  | addEvent k due =>
    simp only [extAct, addEvent]
    split <;> exact h.intHigh
  | setMouse level | setMidiIn level => exact (setIntBit_kept (by decide) level s).trans h.intHigh
  | cancelEvent | setPages | setReadOnly | mapByte => exact h.intHigh

theorem Order.nextDraw (h : Order s) : Order s.nextDraw := ⟨h.mem, h.queue, h.clock, h.fdc, h.intHigh⟩

theorem order_runExt (acts : List ExtAction) (h : Order s) : Order (runExt acts s) := runExt_keeps order_extAct acts h

theorem Order.onlyFdc (h : Order s) (k : OnlyFdc s t) (hfdc : FdcOk t.fdc) : Order t :=
  ⟨k.mem ▸ h.mem, k.events ▸ h.queue, k.clock ▸ h.clock, hfdc, k.sig ▸ h.intHigh⟩

theorem order_portCharge (p : Word) (h : Order s) : Order (portCharge p s) := h.quiet ((Quiet.refl s).later (le_portChargedCycle p s))

theorem order_portRead (p : Word) (s : State) (h : Order s) : Order (portRead p s).2 := by
  have hcharged := order_portCharge p h
  unfold portRead
  simp only
  split
  · exact hcharged.onlyFdc (onlyFdc_fdcIn p _) (fdcIn_ok hcharged.fdc p)
  · exact order_runExt _ hcharged.nextDraw

theorem order_portWrite (p : Word) (v : Byte) (s : State) (h : Order s) : Order (portWrite p v s) := by
  have hcharged := order_portCharge p h
  unfold portWrite
  simp only
  split
  · exact hcharged.onlyFdc (onlyFdc_fdcOut p v _) (fdcOut_ok hcharged.fdc p v)
  · exact order_runExt _ hcharged.nextDraw

end

/-! ### The parts of a step -/

section
variable {s t : State}

theorem order_afterCheck (h : Order s) (hx : afterCheck s = .next t) : Order t :=
  afterCheck_keeps (fun k h => Order.onCpu k h) (port_keeps (fun k h => Order.quiet h k) order_portRead order_portWrite) h hx

theorem order_dispatch (e : Event) (now budget : Nat) (h : Order s) : Order (dispatch e now budget s).1 := by
  refine dispatch_keeps order_extAct (fun _ => Order.nextDraw) (fun m hm level u hu => ?_)
    (fun u hu => ⟨hu.mem, hu.queue, hu.clock, hu.fdc, hu.intHigh⟩) e now budget h
  have outside : ∀ m ∈ [intFrame, intLine, intMidiOut], m &&& 0xE0#8 = 0#8 := by decide
  exact ⟨hu.mem, hu.queue, hu.clock, hu.fdc, (setIntBit_kept (outside m hm) level u).trans hu.intHigh⟩

theorem order_checkEvents (now budget : Nat) (h : Order s) : Order (checkEvents now budget s) :=
  drainEvents_keeps (fun _ _ _ heq hu => ⟨hu.mem, QueueOk.tail (heq ▸ hu.queue), hu.clock, hu.fdc, hu.intHigh⟩)
    (fun e now budget _ => order_dispatch e now budget) _ now budget h

/-- The clock the event check leaves, by its closed form. -/
theorem clockOk_eventCheck (h : ClockOk s.clock) : ClockOk (eventCheck s).clock := by
  obtain ⟨hcheck, -⟩ := Steps.eventCheckClock s
  rw [hcheck]
  refine ⟨Nat.le_refl _, ?_, ?_⟩
  · simp only
    split
    · next hlt => rw [Nat.div_eq_of_lt hlt, Nat.add_zero, h.contended]
    · rw [ResetProcedure.lineContended_eq_decide]
  · have hlines : Config.linesPerFrame = 312 := rfl
    simp only [h.ended, hlines, ← Bool.decide_or, decide_eq_decide]
    omega

theorem order_endLines (n : Nat) (h : Order s) (hclock : ClockOk (endLines n s).clock) : Order (endLines n s) := by
  obtain rfl | hn := Nat.eq_zero_or_pos n
  · exact h
  · rw [endLines_eq n s hn] at hclock ⊢
    exact ⟨h.mem, h.queue, hclock, h.fdc, h.intHigh⟩

theorem order_eventCheck (h : Order s) : Order (eventCheck s) := by
  have hclock := clockOk_eventCheck h.clock
  have hsynced : Order (syncCounter s) := ⟨h.mem, h.queue, ⟨Nat.le_refl _, h.clock.contended, h.clock.ended⟩, h.fdc, h.intHigh⟩
  unfold eventCheck at hclock ⊢
  simp only at hclock ⊢
  rw [(onlyExt_checkEvents _ _ _).clock] at hclock
  exact order_checkEvents _ _ (order_endLines _ hsynced hclock)

theorem order_closeFrame (h : Order s) : Order (closeFrame s) := by
  unfold closeFrame
  split
  · exact ⟨h.mem, h.queue, ⟨h.clock.mark, rfl, rfl⟩, h.fdc, h.intHigh⟩
  · exact h

theorem order_hostAct (x : HostAction) (s : State) (h : Order s) : Order (hostAct x s) := by
  cases x with
  | ext y => exact order_extAct y s h
  | setNmi | setReset | setPaused => exact ⟨h.mem, h.queue, h.clock, h.fdc, h.intHigh⟩
  | ejectDisk => exact ⟨h.mem, h.queue, h.clock, fdcOk_withDisk h.fdc trivial, h.intHigh⟩
  | insertDisk d =>
    simp only [hostAct, insertDisk]
    split
    · next hwf => exact ⟨h.mem, h.queue, h.clock, fdcOk_withDisk h.fdc (diskOk_fresh hwf), h.intHigh⟩
    · exact h

/-- A reset clears `frame_end`; at a boundary the scanlines have been restarted before it. -/
theorem order_pseudoInterrupts (h : Order s) (hframe : s.clock.frameEnd = false) : Order (pseudoInterrupts s) := by
  unfold pseudoInterrupts
  split
  · exact ⟨h.mem, h.queue, ⟨h.clock.mark, rfl, hframe.symm.trans h.clock.ended⟩, fdcOk_reset h.fdc.disk,
      (by decide : 0xFF#8 &&& 0xE0#8 = 0xE0#8)⟩
  · split
    · have hcleared : Order (s.mapSig fun g => { g with nmiPending := false }) := ⟨h.mem, h.queue, h.clock, h.fdc, h.intHigh⟩
      exact hcleared.onCpu (onCpu_takeInterrupt .nmi _)
    · exact h

theorem closeFrame_frameEnd (s : State) : (closeFrame s).clock.frameEnd = false := by
  unfold closeFrame
  split
  · rfl
  · next h => exact Bool.eq_false_iff.mpr h

theorem order_frameBoundary (h : Order s) : Order (frameBoundary s) := by
  have hclosed := order_closeFrame h
  have hticked : Order (fdcFrameTick (closeFrame s)) := hclosed.onlyFdc (onlyFdc_fdcFrameTick _) (fdcFrameTick_ok hclosed.fdc)
  have hframe : (fdcFrameTick (closeFrame s)).clock.frameEnd = false := by
    rw [(onlyFdc_fdcFrameTick _).clock]
    exact closeFrame_frameEnd s
  have hserved : Order (hostServices (fdcFrameTick (closeFrame s))) ∧ (hostServices (fdcFrameTick (closeFrame s))).clock.frameEnd = false :=
    hostServices_keeps (P := fun u => Order u ∧ u.clock.frameEnd = false)
      (fun x u hu => ⟨order_hostAct x u hu.1, by rw [hostAct_clock]; exact hu.2⟩) (fun u hu => ⟨hu.1.nextDraw, hu.2⟩) ⟨hticked, hframe⟩
  unfold frameBoundary unlessFault
  split
  · exact order_pseudoInterrupts hserved.1 hserved.2
  · exact hserved.1

end

/-! ### The `table` latch (log entry 10) -/

/-- Whether an instruction chooses the table of the next byte: CB, ED and their forms under an index mode. -/
def selectsTable : Instr → Bool
  | .prefixCb | .prefixEd | .prefixDdcb | .prefixFdcb | .prefixEdIdx => true
  | _ => false

section
variable {s t : State}

theorem exec_table {i : Instr} (hselect : selectsTable i = false) (hx : exec i s = .next t) : t.ctl.table = s.ctl.table := by
  cases hspecial : writesSpecial i with
  | false =>
    obtain ⟨u, hu, h⟩ := runsCalmly_of_not_writesSpecial (s := s) hspecial
    rw [eq_of_exec hx hu, h.ctl]
  | true =>
    cases i
    case prefixCb | prefixEd | prefixDdcb | prefixFdcb | prefixEdIdx => cases hselect
    case ldIA | ldRA | exAfAf | exx | halt | di | ei | im0 | im1 | im2 | im0Mirror | im1Mirror | im2Mirror | prefixDd | prefixFd | retn |
      reti | retnMirror => exact eq_of_exec hx rfl ▸ rfl
    all_goals cases hspecial

theorem encode_of_selectsTable {i : Instr} (h : selectsTable i = true) :
    encode i ∈ [[0xCB#8], [0xED#8], [0xDD#8, 0xCB#8], [0xFD#8, 0xCB#8], [0xDD#8, 0xED#8]] := by
  cases i
  case prefixCb | prefixEd | prefixDdcb | prefixFdcb | prefixEdIdx => simp [encode]
  all_goals cases h

/-- The tables behind a prefix hold no prefix byte: what they decode is encoded behind the prefix that leads to them. -/
theorem decodeOp_selectsTable {table : OpTable} (htable : table ≠ .main) (x : IndexMode) (b0 b1 b2 : Byte) :
    selectsTable (decodeOp table x b0 b1 b2).1 = false := by
  obtain ⟨-, -, hpos, -, hencode⟩ := Encoding.decodedBytesAreEncoded.1 table x b0 b1 b2
  obtain ⟨n, hn⟩ : ∃ n, (decodeOp table x b0 b1 b2).2 = n + 1 := ⟨_, (Nat.succ_pred_eq_of_pos hpos).symm⟩
  rw [hn, List.take_succ_cons] at hencode
  by_contra hselects
  have hprefix := encode_of_selectsTable (Bool.not_eq_false _ ▸ hselects)
  rw [hencode] at hprefix
  cases table with
  | main => exact htable rfl
  | cb | ed | ddcb | fdcb => simp at hprefix

theorem finishStep_table {i : Instr} (hx : finishStep i s = .next t) : t.ctl.table = s.ctl.table := by
  rw [finishStep] at hx
  obtain rfl := Host.Outcome.next.inj hx
  split <;> rfl

theorem runSubTable_table (htable : s.ctl.table ≠ .main) (hx : runSubTable s = .next t) : t.ctl.table = .main := by
  obtain ⟨u, hu⟩ := exec_answers (fetchInstr s).1 (fetchInstr s).2
  have hkept : u.ctl.table = .main := exec_table (decodeOp_selectsTable htable ..) hu
  simp only [runSubTable, hu] at hx
  rw [finishStep_table hx, hkept]

theorem afterCheck_table (htable : s.ctl.table = .main) (hx : afterCheck s = .next t) : t.ctl.table = .main := by
  have haccepted := (acceptInterrupt_table s).trans htable
  cases hhalted : (acceptInterrupt s).ctl.halted with
  | true =>
    rw [afterCheck_of_halted hhalted] at hx
    exact Host.Outcome.next.inj hx ▸ haccepted
  | false =>
    rw [afterCheck_of_running hhalted] at hx
    obtain ⟨u, hu⟩ := exec_answers (fetchInstr (acceptInterrupt s)).1 (fetchInstr (acceptInterrupt s)).2
    simp only [runInstr, hu] at hx
    split at hx
    · next hmain => rw [finishStep_table hx, hmain]
    · next hsub => exact runSubTable_table hsub hx

theorem eventCheck_table (s : State) : (eventCheck s).ctl.table = s.ctl.table := by
  obtain ⟨-, hctl, -⟩ := onlyExt_eventCheck s
  rw [hctl]

theorem hostAct_ctl (x : HostAction) (s : State) : (hostAct x s).ctl = s.ctl := by
  cases x with
  | ext y => exact (onlyExt_extAct y s).ctl
  | setNmi | setReset | setPaused | ejectDisk => rfl
  | insertDisk d =>
    simp only [hostAct, insertDisk]
    split <;> rfl

theorem pseudoInterrupts_table (htable : s.ctl.table = .main) : (pseudoInterrupts s).ctl.table = .main := by
  unfold pseudoInterrupts
  split
  · rfl
  · split
    · rw [takeInterrupt_nmi]
      simpa [spend, addCycles, setPc, setIffs] using htable
    · exact htable

theorem frameBoundary_table (htable : s.ctl.table = .main) : (frameBoundary s).ctl.table = .main := by
  have hclosed : (closeFrame s).ctl.table = .main := by
    unfold closeFrame
    split <;> exact htable
  have hserved : (hostServices (fdcFrameTick (closeFrame s))).ctl.table = .main :=
    hostServices_keeps (P := fun u => u.ctl.table = .main) (fun x u hu => by rw [hostAct_ctl, hu]) (fun _ hu => hu)
      (by rw [(onlyFdc_fdcFrameTick _).ctl, hclosed])
  exact unlessFault_keeps (P := fun u => u.ctl.table = .main) (fun _ => pseudoInterrupts_table) hserved

end

/-- Settles O47: each part of the step keeps the invariant, and the latch is back at the main table at its end. -/
theorem invariantKept : Obligations.InvariantKept := by
  unfold Obligations.InvariantKept
  intro s t h hstep
  have horder : Order s := ⟨h.mem, h.queue, h.clock, h.fdc, h.intHigh⟩
  have hend : Order t ∧ t.ctl.table = .main := by
    obtain rfl | rfl | hafter := step_cases hstep
    · exact ⟨order_frameBoundary horder, frameBoundary_table h.table⟩
    · exact ⟨order_eventCheck horder, (eventCheck_table s).trans h.table⟩
    · exact ⟨order_afterCheck (order_eventCheck horder) hafter, afterCheck_table ((eventCheck_table s).trans h.table) hafter⟩
  obtain ⟨⟨hmem, hqueue, hclock, hfdc, hint⟩, htable⟩ := hend
  exact ⟨hmem, hqueue, hclock, hfdc, hint, htable⟩

end Sys2Proof.Proofs.Invariant
end
